-- ==== Sys2Proof/Word.lean ====
section
/-! DEFINITION. The two word types of the block: R14 of 00_scope.md. -/

namespace Sys2Proof

/-- A byte: an unsigned integer 0 to 255 (R14). -/
abbrev Byte := BitVec 8

/-- A word: an unsigned integer 0 to 65535 (R14). -/
abbrev Word := BitVec 16

end Sys2Proof
end

