-- ==== Sys2Proof/Config.lean ====
section
/-! DEFINITION. The configuration record `cfg` of R40 and R41 (10_state.md), whose fields are the
parameters of R8 to R10 (00_scope.md). Its legality and the values derived from it are in
Machine/Configuration.lean. -/

namespace Sys2Proof

/-- `PROFILE` (R9, R41, R42): three named profiles, and the reserved code 3, which no legal `cfg`
holds (R43, U17). -/
inductive Profile where
  | default | adapterA | adapterB | reserved
  deriving DecidableEq, Repr

/-- The configuration record (R41), field by field in the table's order. Times, sizes and counts are
naturals (R12); the width of each is part of its legality. -/
structure Cfg where
  /-- `DEV_ADDR`: the address byte of every frame (R8). -/
  devAddr : Byte
  /-- `FC_READ`: function code of READ (R8). -/
  fcRead : Byte
  /-- `FC_WRITE`: function code of WRITE (R8). -/
  fcWrite : Byte
  /-- `FC_WMASK`: function code of WMASK (R8). -/
  fcWmask : Byte
  /-- `WRITE_COUNT_BYTE`: a count byte 0x01 in write requests (R8, R94, R95). -/
  writeCountByte : Bool
  /-- `BAUD`: bits per second (R9). -/
  baud : Nat
  /-- `PROFILE`: the timing profile selected; it changes nothing else (R42). -/
  profile : Profile
  /-- `PRE_TX_SETTLE_US`: settle delay of the selected profile (R9, R183). -/
  preTxSettleUs : Nat
  /-- `GUARD_FLOOR_US`: guard floor of the selected profile (R9). -/
  guardFloorUs : Nat
  /-- `WORST_CASE_FRAME_BYTES`: factor of the guard formula (R9, R184). -/
  worstCaseFrameBytes : Nat
  /-- `FLUSH_RX_BEFORE_TX`: flush stale bytes before each transmission (R9, R171). -/
  flushRxBeforeTx : Bool
  /-- `HAS_FLOW`: the flow-control line exists (R9, R28). -/
  hasFlow : Bool
  /-- `RX_TIMEOUT_US`: receive timeout of one attempt (R10). -/
  rxTimeoutUs : Nat
  /-- `ATTEMPTS`: attempt budget, counting transmissions (R10, R222). -/
  attempts : Nat
  /-- `RETRY_BACKOFF_US`: extra delay between attempts (R10, R223). -/
  retryBackoffUs : Nat
  /-- `PREVIEW_BYTES`: greatest preview length (R10, R224). -/
  previewBytes : Nat
  deriving DecidableEq, Repr

end Sys2Proof
end

