-- ==== Sys2Proof/Machine/Configuration.lean ====
section
/-! DEFINITION. What is derived from `cfg` (R11, R180 to R182 of 42_transceiver.md), which `cfg` is
legal (R41, R43), and the example `cfg` that State.reset carries (log 1). -/

namespace Sys2Proof.Machine

/-- `FRAME_TIME_US = (11,000,000 + BAUD − 1) div BAUD` (R180). -/
def frameTimeUs (c : Cfg) : Nat := (11000000 + c.baud - 1) / c.baud

/-- `POST_TX_GUARD_US` (R181). -/
def postTxGuardUs (c : Cfg) : Nat :=
  max c.guardFloorUs (frameTimeUs c * c.worstCaseFrameBytes + 2 * frameTimeUs c)

/-- The code of `PROFILE` (R41). -/
def profileCode : Profile → BitVec 2
  | .default => 0
  | .adapterA => 1
  | .adapterB => 2
  | .reserved => 3

/-- A legal `cfg`: every field in its range of R41, the function codes pairwise distinct (R8), and
every derived time below 2^32 (R12, R43). -/
def cfgLegal (c : Cfg) : Bool :=
  c.fcRead != c.fcWrite && c.fcRead != c.fcWmask && c.fcWrite != c.fcWmask
    && decide (1 ≤ c.baud) && decide (c.baud < 2 ^ 32)
    && c.profile != .reserved
    && decide (c.preTxSettleUs < 2 ^ 32) && decide (c.guardFloorUs < 2 ^ 32)
    && decide (c.worstCaseFrameBytes < 2 ^ 16)
    && decide (1 ≤ c.rxTimeoutUs) && decide (c.rxTimeoutUs < 2 ^ 32)
    && decide (1 ≤ c.attempts) && decide (c.attempts < 2 ^ 8)
    && decide (c.retryBackoffUs < 2 ^ 32)
    && decide (c.previewBytes < 2 ^ 8)
    && decide (frameTimeUs c < 2 ^ 32) && decide (postTxGuardUs c < 2 ^ 32)

/-- The example configuration: the spec's defaults and general-knowledge values (R8 to R10, G1 to
G3) and, where it gives no default, the constants of 95_test_vectors.md part 3. The spec gives `cfg`
no reset value (R49). PRESUMED and DESIGN CHOICE, unsafe: log 1. -/
def defaultCfg : Cfg where
  devAddr := 0x01
  fcRead := 0x43
  fcWrite := 0x44
  fcWmask := 0x45
  writeCountByte := false
  baud := 38400
  profile := .default
  preTxSettleUs := 100
  guardFloorUs := 2000
  worstCaseFrameBytes := 12
  flushRxBeforeTx := true
  hasFlow := true
  rxTimeoutUs := 50000
  attempts := 3
  retryBackoffUs := 0
  previewBytes := 8

end Sys2Proof.Machine
end

