-- ==== Sys2Proof/Machine/Crc.lean ====
section
/-! DEFINITION. The CRC unit: 40_crc.md, R120 to R130. -/

namespace Sys2Proof.Machine

/-- `lo8(w) = w[7:0]` (R14). -/
def lo8 (w : Word) : Byte := w.setWidth 8

/-- `hi8(w) = w[15:8]` (R14). -/
def hi8 (w : Word) : Byte := (w >>> 8).setWidth 8

/-- `word(h, l) = h × 256 + l` (R14). -/
def mkWord (h l : Byte) : Word := (h.setWidth 16 <<< 8) ||| l.setWidth 16

/-- The feedback constant of R120. -/
def crcFeedback : Word := 0xA001

/-- The initial value of R120. -/
def crcInit : Word := 0xFFFF

/-- One turn of the loop of R121: shift right by one, and XOR the feedback constant if the bit
shifted out was 1. -/
def crcShift (c : Word) : Word :=
  if c.getLsbD 0 then (c >>> 1) ^^^ crcFeedback else c >>> 1

/-- `n` turns of the loop of R121. -/
def crcShifts : Nat → Word → Word
  | 0, c => c
  | n + 1, c => crcShifts n (crcShift c)

/-- `crc16_update(crc, b)` (R121). The bit-level step is PRESUMED by the spec itself (G5, log 17). -/
def crc16Update (crc : Word) (b : Byte) : Word :=
  crcShifts 8 (crc ^^^ b.setWidth 16)

/-- One step of the bit-serial form of R122: `d` is the next data bit. -/
def crcSerial (c : Word) (d : Bool) : Word :=
  if (c.getLsbD 0 ^^ d) then (c >>> 1) ^^^ crcFeedback else c >>> 1

/-- `crc16(s)` (R123): a left fold of `crc16_update` from the initial value, index 0 first. -/
def crc16 (s : List Byte) : Word := s.foldl crc16Update crcInit

/-- The two bytes of a CRC field, low byte first (R66, R98). -/
def crcBytes (c : Word) : List Byte := [lo8 c, hi8 c]

/-- `append_crc(s)` (R124). -/
def appendCrc (s : List Byte) : List Byte := s ++ crcBytes (crc16 s)

/-- `crc_valid(f)` (R126): the residue of the whole frame is zero. -/
def crcValid (f : List Byte) : Bool := crc16 f == 0

end Sys2Proof.Machine
end

