-- ==== Sys2Proof/Syntax.lean ====
section
/-! DEFINITION. The syntax of the block: the three command kinds (R3, R22) and the six frames of
spec/opcode_table.json, one constructor a row. -/

namespace Sys2Proof

/-- `cmd.kind` (R22): which of the three transaction commands. -/
inductive CmdKind where
  | read | write | wmask
  deriving DecidableEq, Repr

/-- A request and the response to it share address and function byte; a response is told from a
request by being received, not sent (R99). -/
inductive Direction where
  | sent | received
  deriving DecidableEq, Repr

/-- The six rows of the opcode table. `DEV_ADDR`, the function code, the optional count byte and the
byte count are not operands: the first three come from `cfg`, the last is the payload's length.
Every other bit of a frame is a field, the CRC among them (`crc_lo` is its low byte, R98). A
request's fields stand in the wire order category, index, page (R91). -/
inductive Instr where
  /-- REQ_READ (R92, R141): the frame of the command READ (R210). -/
  | reqRead (category index page count : Byte) (crc : Word)
  /-- REQ_WRITE (R94, R142): the frame of the command WRITE (R211). -/
  | reqWrite (category index page : Byte) (value crc : Word)
  /-- REQ_WMASK (R95, R143): the frame of the command WMASK (R212). -/
  | reqWmask (category index page : Byte) (andMask orMask crc : Word)
  /-- RSP_READ (R96, R160): the response to a READ. -/
  | rspRead (payload : List Byte) (crc : Word)
  /-- RSP_WRITE (R96, R161): the response to a WRITE. -/
  | rspWrite (payload : List Byte) (crc : Word)
  /-- RSP_WMASK (R96, R162): the response to a WMASK. -/
  | rspWmask (payload : List Byte) (crc : Word)
  deriving DecidableEq, Repr

/-- Whether a frame is sent or received by the block (opcode_table.json, "direction"). -/
def Instr.direction : Instr → Direction
  | .reqRead _ _ _ _ _ => .sent
  | .reqWrite _ _ _ _ _ => .sent
  | .reqWmask _ _ _ _ _ _ => .sent
  | .rspRead _ _ => .received
  | .rspWrite _ _ => .received
  | .rspWmask _ _ => .received

/-- The command kind whose function code a frame carries (R99). -/
def Instr.kind : Instr → CmdKind
  | .reqRead _ _ _ _ _ => .read
  | .reqWrite _ _ _ _ _ => .write
  | .reqWmask _ _ _ _ _ _ => .wmask
  | .rspRead _ _ => .read
  | .rspWrite _ _ => .write
  | .rspWmask _ _ => .wmask

end Sys2Proof
end

