-- ==== Sys2Proof/Machine/State.lean ====
section
/-! DEFINITION. The state of FVB (10_state.md R20 to R32, R40), the events that act on it (R44 to
R47, R202), the reasons a step can stop, and the state after reset (R49). -/

namespace Sys2Proof.Machine

/-- The state register of the transaction engine, the block's program counter (R21). The codes 6 and
7 are never reached (R21, U16) and have no name here. -/
inductive Fsm where
  | idle | preTx | txSend | postTx | listen | backoff
  deriving DecidableEq, Repr

/-- The two kinds of attempt failure (R222, R250 to R252). -/
inductive ErrKind where
  | crcMismatch | timeout
  deriving DecidableEq, Repr

/-- `res_status` (R23, R102). `invalidChannel` is the host layer's and never written (R253, U18). -/
inductive Status where
  | ok | crcMismatch | timeout | invalidChannel
  deriving DecidableEq, Repr

/-- The level of a diagnostic record (R32). -/
inductive DiagLevel where
  | debug | warn
  deriving DecidableEq, Repr

/-- A diagnostic record `(level, kind, attempt)` (R32). -/
structure DiagRecord where
  level : DiagLevel
  kind : ErrKind
  attempt : Nat
  deriving DecidableEq, Repr

/-- The command operand registers (R22). A field the kind does not use is latched as given and never
read. -/
structure Cmd where
  kind : CmdKind
  category : Byte
  page : Byte
  index : Byte
  count : Byte
  value : Word
  andMask : Word
  orMask : Word
  deriving DecidableEq, Repr

/-- The operand inputs of the host command port (R36); `kind` is `cmd_kind`, 0 for no command. -/
structure CmdPort where
  kind : BitVec 2
  category : Byte
  page : Byte
  index : Byte
  count : Byte
  value : Word
  andMask : Word
  orMask : Word
  deriving DecidableEq, Repr

/-- One clock cycle's sample of every input port (R36, R38, R39). -/
structure PortIn where
  /-- `rst` -/
  rst : Bool
  /-- `cmd_valid` -/
  cmdValid : Bool
  /-- `cmd_kind` and the operand inputs -/
  cmd : CmdPort
  /-- `tx_done` -/
  txDone : Bool
  /-- `rx_valid` -/
  rxValid : Bool
  /-- `rx_data` -/
  rxData : Byte
  /-- `tick_us` -/
  tickUs : Bool
  deriving DecidableEq, Repr

/-- What can happen next. The first ten are the steps of R202; an event whose enabling condition does
not hold changes nothing (log 5). -/
inductive Event where
  /-- ISSUE of the command presented on the command port (R36, R205). -/
  | issue (p : CmdPort)
  /-- WIRE_TX (R47). -/
  | wireTx
  /-- RX_BYTE(b) (R46). -/
  | rxByte (b : Byte)
  /-- TICK (R45). -/
  | tick
  /-- SETTLE_DONE (R206). -/
  | settleDone
  /-- TX_DONE (R207). -/
  | txDone
  /-- GUARD_DONE (R208). -/
  | guardDone
  /-- RX_CONSUME (R209). -/
  | rxConsume
  /-- RX_TIMEOUT (R221). -/
  | rxTimeout
  /-- BACKOFF_DONE (R223). -/
  | backoffDone
  /-- The reset input (R291, log 11). -/
  | reset
  /-- The platform presents a configuration (R40, R295, R296, log 12). -/
  | config (c : Cfg)
  /-- One clock cycle of the hardware with these inputs (R44, R262, log 13, log 14). -/
  | cycle (p : PortIn)
  deriving DecidableEq, Repr

/-- The state of the block. The last four fields are the model's own (log 3, 4, 12, 13). -/
structure State where
  /-- The configuration record, constant from the first ISSUE on (R40, log 1). -/
  cfg : Cfg
  /-- R21 -/
  fsm : Fsm
  /-- R22 -/
  cmd : Cmd
  /-- R23 -/
  resValid : Bool
  /-- R23 -/
  resStatus : Status
  /-- R23 -/
  resWords : List Word
  /-- R23 -/
  resPreview : List Byte
  /-- R24 -/
  attempt : Nat
  /-- R25 -/
  timer : Nat
  /-- R26 -/
  txframe : List Byte
  /-- R27 -/
  txq : List Byte
  /-- R28 -/
  txen : Bool
  /-- R28 -/
  flow : Bool
  /-- R29 -/
  rxfifo : List Byte
  /-- R30 -/
  acc : List Byte
  /-- R31 -/
  crc : Word
  /-- R32 -/
  diag : List DiagRecord
  /-- R32, `wire_out` -/
  wireOut : List Byte
  /-- An ISSUE has happened since reset: `cfg` may no longer be written (R40, log 12). -/
  issued : Bool
  /-- A byte was consumed in this listening period by a clock cycle that began with `timer = 0`
  (R262 (a), log 13). -/
  lateConsume : Bool
  /-- The command-port inputs last presented (R36, log 3). -/
  port : CmdPort
  /-- The events still to happen, in order: the environment's and the scheduler's choices (R44,
  R262, log 4). -/
  agenda : List Event
  deriving DecidableEq, Repr

/-- A fault would be a stop of the machine itself. FVB has "no fatal error path" (R250): no step
faults, so there is no constructor (log 18). -/
inductive Fault where
  deriving DecidableEq, Repr

/-- The refusals. -/
inductive Refusal where
  /-- An instruction without a meaning. No arm of exec answers it: every row is modelled. Safe. -/
  | notModelled (mnemonic : String)
  /-- The platform presented an illegal `cfg`: R43 and U7 refuse it. Raised by the event `config`.
  Safe: the run stops. -/
  | illegalConfig
  /-- The platform presented a `cfg` after the first ISSUE: R40 and U8 give the model no such step.
  Raised by the event `config`. Safe: the run stops. -/
  | configAfterIssue
  deriving DecidableEq, Repr

/-- `cmd` after reset: the spec leaves it unspecified and no rule reads it before ISSUE writes it
(R49, U13). DESIGN CHOICE, unsafe: log 2. -/
def initialCmd : Cmd := ⟨.read, 0, 0, 0, 0, 0, 0, 0⟩

/-- The command-port inputs before the host has driven them. DESIGN CHOICE: log 3. -/
def initialPort : CmdPort := ⟨0, 0, 0, 0, 0, 0, 0, 0⟩

/-- The state after reset (R49). `cfg` and `cmd` are the model's choice (log 1, log 2), as are the
model's own fields. -/
def State.reset : State where
  cfg := defaultCfg
  fsm := .idle
  cmd := initialCmd
  resValid := false
  resStatus := .ok
  resWords := []
  resPreview := []
  attempt := 1
  timer := 0
  txframe := []
  txq := []
  txen := false
  flow := false
  rxfifo := []
  acc := []
  crc := 0xFFFF
  diag := []
  wireOut := []
  issued := false
  lateConsume := false
  port := initialPort
  agenda := []

end Sys2Proof.Machine
end

