-- ==== Sys2Proof/Machine/Flags.lean ====
section
/-! DEFINITION. The flags of R33 and the codes of R21, R36 and R102. FVB has no arithmetic condition
codes. -/

namespace Sys2Proof.Machine

/-- `busy` (R33). -/
def busy (s : State) : Bool := s.fsm != .idle

/-- `cmd_ready` (R33, R36). -/
def cmdReady (s : State) : Bool := s.fsm == .idle

/-- The 3-bit code of `fsm` (R21). -/
def fsmCode : Fsm → BitVec 3
  | .idle => 0
  | .preTx => 1
  | .txSend => 2
  | .postTx => 3
  | .listen => 4
  | .backoff => 5

/-- The 2-bit code of `res_status` (R23, R102). -/
def statusCode : Status → BitVec 2
  | .ok => 0
  | .crcMismatch => 1
  | .timeout => 2
  | .invalidChannel => 3

/-- The 2-bit code of `cmd_kind` (R36, R101). -/
def kindCode : CmdKind → BitVec 2
  | .read => 1
  | .write => 2
  | .wmask => 3

/-- The command kind of a `cmd_kind` code; 0 is no command (R36, R104). -/
def kindOfCode (k : BitVec 2) : Option CmdKind :=
  if k = 1 then some .read
  else if k = 2 then some .write
  else if k = 3 then some .wmask
  else none

/-- The status a final failure reports (R222, R250). -/
def statusOf : ErrKind → Status
  | .crcMismatch => .crcMismatch
  | .timeout => .timeout

/-- The code of `diag_kind` (R39): 1 CrcMismatch, 2 Timeout. R39 gives no width; 2 bits are a DESIGN
CHOICE (log 24). -/
def errCode : ErrKind → BitVec 2
  | .crcMismatch => 1
  | .timeout => 2

/-- The code of `diag_level` (R39): 0 DEBUG, 1 WARN. R39 gives no width; 1 bit is a DESIGN CHOICE
(log 24). -/
def levelCode : DiagLevel → BitVec 1
  | .debug => 0
  | .warn => 1

end Sys2Proof.Machine
end

