-- ==== Sys2Proof/Machine/Operands.lean ====
section
/-! DEFINITION. Operand assembly: how operands become the bytes of a request and how payload bytes
become words (30_encoding.md R91 to R97, 41_frame_codec.md R140 to R144, R151). -/

namespace Sys2Proof.Machine

/-- `fc(kind)` (R144). -/
def fc (c : Cfg) : CmdKind → Byte
  | .read => c.fcRead
  | .write => c.fcWrite
  | .wmask => c.fcWmask

/-- The kind whose function code is `f`, if any (R99, R106). -/
def kindOfFunction (c : Cfg) (f : Byte) : Option CmdKind :=
  if f = c.fcRead then some .read
  else if f = c.fcWrite then some .write
  else if f = c.fcWmask then some .wmask
  else none

/-- The common request header, bytes 0 to 4, in the order category, index, page (R91). -/
def requestHeader (c : Cfg) (k : CmdKind) (category index page : Byte) : List Byte :=
  [c.devAddr, fc c k, category, index, page]

/-- The count byte of write requests, if `WRITE_COUNT_BYTE` (R94, R95). -/
def countByte (c : Cfg) : List Byte := if c.writeCountByte then [0x01] else []

/-- A 16-bit operand is sent high byte first (R65, R97). -/
def wordBytes (w : Word) : List Byte := [hi8 w, lo8 w]

/-- `body` of REQ_READ (R141). -/
def readBody (count : Byte) : List Byte := [count]

/-- `body` of REQ_WRITE (R142). -/
def writeBody (c : Cfg) (value : Word) : List Byte := countByte c ++ wordBytes value

/-- `body` of REQ_WMASK: AND mask, then OR mask (R143). -/
def wmaskBody (c : Cfg) (andMask orMask : Word) : List Byte :=
  countByte c ++ wordBytes andMask ++ wordBytes orMask

/-- The bytes of a response before its CRC field (R96). -/
def responseBytes (c : Cfg) (k : CmdKind) (payload : List Byte) : List Byte :=
  [c.devAddr, fc c k, BitVec.ofNat 8 payload.length] ++ payload

/-- The whole words of a payload, high byte first; an odd last byte is in no word (R68, R151). -/
def wordsOf : List Byte → List Word
  | h :: l :: rest => mkWord h l :: wordsOf rest
  | _ => []

/-- The bytes a frame's CRC covers: all before the CRC field (R98). -/
def bytesBeforeCrc (c : Cfg) : Instr → List Byte
  | .reqRead category index page count _ =>
    requestHeader c .read category index page ++ readBody count
  | .reqWrite category index page value _ =>
    requestHeader c .write category index page ++ writeBody c value
  | .reqWmask category index page andMask orMask _ =>
    requestHeader c .wmask category index page ++ wmaskBody c andMask orMask
  | .rspRead payload _ => responseBytes c .read payload
  | .rspWrite payload _ => responseBytes c .write payload
  | .rspWmask payload _ => responseBytes c .wmask payload

/-- The CRC field a frame carries. -/
def crcField : Instr → Word
  | .reqRead _ _ _ _ crc => crc
  | .reqWrite _ _ _ _ crc => crc
  | .reqWmask _ _ _ _ _ crc => crc
  | .rspRead _ crc => crc
  | .rspWrite _ crc => crc
  | .rspWmask _ crc => crc

/-- The payload of a response; a request has none. -/
def payloadOf : Instr → List Byte
  | .reqRead _ _ _ _ _ => []
  | .reqWrite _ _ _ _ _ => []
  | .reqWmask _ _ _ _ _ _ => []
  | .rspRead payload _ => payload
  | .rspWrite payload _ => payload
  | .rspWmask payload _ => payload

end Sys2Proof.Machine
end

