-- ==== Sys2Proof/Machine/Frame.lean ====
section
/-! DEFINITION. The frame codec as 41_frame_codec.md writes it: the request builder of R140 to R143
and the recognition rule of R150 and R151. ISSUE uses the builder. The recognition rule is the
spec's own function; RX_CONSUME decodes instead (Machine/Events.lean), and that the two agree is a
statement for the provers. -/

namespace Sys2Proof.Machine

/-- `body(c)` by kind (R141 to R143). -/
def requestBody (c : Cfg) (m : Cmd) : List Byte :=
  match m.kind with
  | .read => readBody m.count
  | .write => writeBody c m.value
  | .wmask => wmaskBody c m.andMask m.orMask

/-- `build_request(c)` (R140). -/
def buildRequest (c : Cfg) (m : Cmd) : List Byte :=
  appendCrc (requestHeader c m.kind m.category m.index m.page ++ requestBody c m)

/-- The result of the recognition rule (R150). -/
inductive FrameStatus where
  | incomplete | overrun | unmatched | crcBad
  | good (words : List Word)
  deriving DecidableEq, Repr

/-- `a[i]` (R15), for an index inside the sequence. -/
def byteAt (a : List Byte) (i : Nat) : Byte := a.getD i 0

/-- `payload_words(a)` (R151). -/
def payloadWords (a : List Byte) : List Word :=
  (List.range ((byteAt a 2).toNat / 2)).map
    fun j => mkWord (byteAt a (3 + 2 * j)) (byteAt a (4 + 2 * j))

/-- `frame_status(a, f)` (R150). -/
def frameStatus (c : Cfg) (a : List Byte) (f : Byte) : FrameStatus :=
  if a.length < 3 then .incomplete
  else if a.length < (byteAt a 2).toNat + 5 then .incomplete
  else if (byteAt a 2).toNat + 5 < a.length then .overrun
  else if byteAt a 0 ≠ c.devAddr then .unmatched
  else if byteAt a 1 ≠ f then .unmatched
  else if crc16 a ≠ 0 then .crcBad
  else .good (payloadWords a)

end Sys2Proof.Machine
end

