-- ==== Sys2Proof/Machine/Ops.lean ====
section
/-! DEFINITION. The shared operations on the state: the procedures of 43_transaction_engine.md
(`start_attempt` R203, `complete_ok` R218, `attempt_failed` R222, which is what `raise` means) and
the steps and events that need no instruction (R45 to R47, R206 to R208, R221, R223, R291). Each
carries its enabling condition; where it does not hold the state is unchanged (log 5). -/

namespace Sys2Proof.Machine

/-- `start_attempt()` (R203; R171 the flush, R172 the assertion). -/
def startAttempt (s : State) : State :=
  { s with
    rxfifo := if s.cfg.flushRxBeforeTx then [] else s.rxfifo
    txen := true
    flow := if s.cfg.hasFlow then true else s.flow
    timer := s.cfg.preTxSettleUs
    fsm := .preTx }

/-- What ISSUE latches before the first attempt starts (R205). -/
def latchCommand (m : Cmd) (s : State) : State :=
  { s with
    cmd := m
    txframe := buildRequest s.cfg m
    attempt := 1
    resValid := false
    issued := true }

/-- Event ISSUE(c) (R205): enabled iff `fsm = IDLE`; otherwise the host is held off (R36, U10). -/
def issueCommand (m : Cmd) (s : State) : State :=
  if s.fsm = .idle then startAttempt (latchCommand m s) else s

/-- `complete_ok(words)` (R218). -/
def completeOk (words : List Word) (s : State) : State :=
  { s with
    resStatus := .ok
    resWords := if s.cmd.kind = .read then words else []
    resPreview := []
    resValid := true
    fsm := .idle }

/-- `attempt_failed(e)` when a retry is left (R222). -/
def retryAfter (e : ErrKind) (s : State) : State :=
  { s with
    diag := s.diag ++ [⟨.debug, e, s.attempt⟩]
    attempt := s.attempt + 1
    timer := s.cfg.retryBackoffUs
    fsm := .backoff }

/-- `attempt_failed(e)` of the final attempt (R222, R224, R264): the nearest thing to trap entry. -/
def finalFailure (e : ErrKind) (s : State) : State :=
  { s with
    diag := s.diag ++ [⟨.warn, e, s.attempt⟩]
    resStatus := statusOf e
    resWords := []
    resPreview := s.acc.take s.cfg.previewBytes
    resValid := true
    fsm := .idle }

/-- `attempt_failed(e)`, which is `raise e` (R222): the one operation by which a failure is taken. -/
def attemptFailed (e : ErrKind) (s : State) : State :=
  if s.attempt < s.cfg.attempts then retryAfter e s else finalFailure e s

/-- Event TICK (R45): the down-counter stops at 0. -/
def tick (s : State) : State := { s with timer := s.timer - 1 }

/-- Event RX_BYTE(b) (R46): enabled always. -/
def rxByte (b : Byte) (s : State) : State := { s with rxfifo := s.rxfifo ++ [b] }

/-- Event WIRE_TX (R47): enabled iff `fsm = TX_SEND` and `txq ≠ []`. -/
def wireTx (s : State) : State :=
  if s.fsm = .txSend then
    match s.txq with
    | [] => s
    | b :: rest => { s with wireOut := s.wireOut ++ [b], txq := rest }
  else s

/-- Step SETTLE_DONE (R206). -/
def settleDone (s : State) : State :=
  if s.fsm = .preTx ∧ s.timer = 0 then { s with txq := s.txframe, fsm := .txSend } else s

/-- Step TX_DONE (R207; R175 the release). -/
def txDone (s : State) : State :=
  if s.fsm = .txSend ∧ s.txq = [] then
    { s with
      txen := false
      flow := if s.cfg.hasFlow then false else s.flow
      timer := postTxGuardUs s.cfg
      fsm := .postTx }
  else s

/-- Step GUARD_DONE (R208). A new listening period has consumed nothing late (R262 (a), log 13). -/
def guardDone (s : State) : State :=
  if s.fsm = .postTx ∧ s.timer = 0 then
    { s with
      acc := []
      crc := crcInit
      timer := s.cfg.rxTimeoutUs
      fsm := .listen
      lateConsume := false }
  else s

/-- The first two lines of RX_CONSUME (R209): the byte `b` leaves the queue, of which `rest` stays,
and joins `acc` and the running checksum. -/
def takeByte (b : Byte) (rest : List Byte) (s : State) : State :=
  { s with rxfifo := rest, acc := s.acc ++ [b], crc := crc16Update s.crc b }

/-- Step RX_TIMEOUT (R221). -/
def rxTimeout (s : State) : State :=
  if s.fsm = .listen ∧ s.timer = 0 then attemptFailed .timeout s else s

/-- Step BACKOFF_DONE (R223). -/
def backoffDone (s : State) : State :=
  if s.fsm = .backoff ∧ s.timer = 0 then startAttempt s else s

/-- The reset input (R291): every element takes its reset value (R49) and the transaction in flight
is abandoned without a result; `cfg` has no reset value, and the port inputs and what is still to
happen are the environment's (log 11). -/
def applyReset (s : State) : State :=
  { State.reset with cfg := s.cfg, port := s.port, agenda := s.agenda }

/-- A response frame `f` of kind `k` with these payload words has been accumulated to its last byte
(R209 with R150): it is recognised only in LISTEN with a command of that kind in flight; then the
residue decides. Otherwise the buffer is UNMATCHED, or is not being listened to, and nothing happens
(R152, log 6). -/
def receiveFrame (k : CmdKind) (f : List Byte) (words : List Word) (s : State) : State :=
  if s.fsm = .listen ∧ s.cmd.kind = k then
    if crcValid f then completeOk words s else attemptFailed .crcMismatch s
  else s

/-- The next outcome after a first one: a stop stays a stop. -/
def andThen (o : Host.Outcome State Fault Refusal)
    (f : State → Host.Outcome State Fault Refusal) : Host.Outcome State Fault Refusal :=
  match o with
  | .next s => f s
  | .fault r => .fault r
  | .refused r => .refused r

end Sys2Proof.Machine
end

