-- ==== Sys2Proof/Machine/Request.lean ====
section
/-! DEFINITION. The meanings of the three request rows: the commands READ (R210), WRITE (R211) and
WMASK (R212), whose execution begins with ISSUE (R205). The operand fields a kind does not use are
latched from the command port as they stand there (R22, U12, log 8). The CRC field of the frame is
not an operand: the block computes its own (R140, log 7). -/

namespace Sys2Proof.Machine

/-- REQ_READ: ISSUE(READ(category, page, index, count)) (R141, R205, R210). -/
def execReqRead (category index page count : Byte) (_crc : Word) (s : State) :
    Host.Outcome State Fault Refusal :=
  .next (issueCommand
    ⟨.read, category, page, index, count, s.port.value, s.port.andMask, s.port.orMask⟩ s)

/-- REQ_WRITE: ISSUE(WRITE(category, page, index, value)) (R142, R205, R211). -/
def execReqWrite (category index page : Byte) (value _crc : Word) (s : State) :
    Host.Outcome State Fault Refusal :=
  .next (issueCommand
    ⟨.write, category, page, index, s.port.count, value, s.port.andMask, s.port.orMask⟩ s)

/-- REQ_WMASK: ISSUE(WMASK(category, page, index, and_mask, or_mask)) (R143, R205, R212). -/
def execReqWmask (category index page : Byte) (andMask orMask _crc : Word) (s : State) :
    Host.Outcome State Fault Refusal :=
  .next (issueCommand
    ⟨.wmask, category, page, index, s.port.count, s.port.value, andMask, orMask⟩ s)

end Sys2Proof.Machine
end

