-- ==== Sys2Proof/WellFormed.lean ====
section
/-! DEFINITION. Which terms of the syntax are frames the spec admits. Two checks: a response's
payload fits its byte count (R90, R96: N is 0 to 255), and a request carries the CRC the builder
computes (R98, R140, R145). A response with a wrong CRC is well-formed: it is a frame FVB receives
and answers with CrcMismatch (R153). -/

namespace Sys2Proof

/-- The payload's length fits the byte-count byte (R90, R96). -/
def Instr.payloadFits (i : Instr) : Bool := decide ((Machine.payloadOf i).length ≤ 255)

/-- The CRC field of a request is the CRC of the bytes before it (R98). -/
def Instr.requestCrcRight (c : Cfg) (i : Instr) : Bool :=
  match i.direction with
  | .sent => Machine.crcField i == Machine.crc16 (Machine.bytesBeforeCrc c i)
  | .received => true

/-- A well-formed frame under the configuration `c`. -/
def Instr.wellFormed (c : Cfg) (i : Instr) : Bool := i.payloadFits && i.requestCrcRight c

end Sys2Proof
end

