-- ==== Sys2Proof/Decode.lean ====
section
/-! DEFINITION. The decoder of the six frames of opcode_table.json, total on any bytes and rejecting
by name, and after it the encoder, from the same layouts (R91 to R98). A frame is decoded whole: for
a received sequence the one length examined is byte 2 plus 5 (R103, R105, R150). -/

namespace Sys2Proof

/-- Why a byte sequence is not a frame. -/
inductive DecodeError where
  /-- Too few bytes for the frame's length (R150 INCOMPLETE; R90 for a request). -/
  | incomplete
  /-- More bytes than the frame's length (R150 OVERRUN; R90 for a request). -/
  | overrun
  /-- Byte 0 is not `DEV_ADDR` (R91, R150). -/
  | wrongAddress
  /-- Byte 1 is none of the three function codes (R99, R106). -/
  | unknownFunction
  /-- `WRITE_COUNT_BYTE` is set and byte 5 of a write request is not 0x01 (R94, R95). -/
  | badCountByte
  deriving DecidableEq, Repr

/-- The CRC word of the last two bytes of a frame, low byte first (R98). -/
def crcOfBytes : List Byte → Word
  | lo :: hi :: _ => Machine.mkWord hi lo
  | _ => 0

/-- The response constructor of a command kind. -/
def responseOf (k : CmdKind) (payload : List Byte) (crc : Word) : Instr :=
  match k with
  | .read => .rspRead payload crc
  | .write => .rspWrite payload crc
  | .wmask => .rspWmask payload crc

/-- A received frame (R96, R150): the length is tested first, then address, then function. -/
def decodeResponse (c : Cfg) : List Byte → Except DecodeError Instr
  | addr :: func :: n :: rest =>
    if rest.length < n.toNat + 2 then .error .incomplete
    else if n.toNat + 2 < rest.length then .error .overrun
    else if addr ≠ c.devAddr then .error .wrongAddress
    else
      match Machine.kindOfFunction c func with
      | none => .error .unknownFunction
      | some k => .ok (responseOf k (rest.take n.toNat) (crcOfBytes (rest.drop n.toNat)))
  | _ => .error .incomplete

/-- The operand bytes of a write request, after the count byte if there is one (R94, R95). -/
def stripCountByte (c : Cfg) (body : List Byte) : Except DecodeError (List Byte) :=
  if c.writeCountByte then
    match body with
    | [] => .error .incomplete
    | b :: rest => if b = 0x01 then .ok rest else .error .badCountByte
  else .ok body

/-- The operands and CRC of REQ_READ after its header (R92). -/
def decodeReadBody (category index page : Byte) : List Byte → Except DecodeError Instr
  | [n, lo, hi] => .ok (.reqRead category index page n (Machine.mkWord hi lo))
  | _ :: _ :: _ :: _ :: _ => .error .overrun
  | _ => .error .incomplete

/-- The operands and CRC of REQ_WRITE after its header and count byte (R94). -/
def decodeWriteBody (category index page : Byte) : List Byte → Except DecodeError Instr
  | [vh, vl, lo, hi] =>
    .ok (.reqWrite category index page (Machine.mkWord vh vl) (Machine.mkWord hi lo))
  | _ :: _ :: _ :: _ :: _ :: _ => .error .overrun
  | _ => .error .incomplete

/-- The operands and CRC of REQ_WMASK after its header and count byte (R95). -/
def decodeWmaskBody (category index page : Byte) : List Byte → Except DecodeError Instr
  | [ah, al, oh, ol, lo, hi] =>
    .ok (.reqWmask category index page (Machine.mkWord ah al) (Machine.mkWord oh ol)
      (Machine.mkWord hi lo))
  | _ :: _ :: _ :: _ :: _ :: _ :: _ :: _ => .error .overrun
  | _ => .error .incomplete

/-- A request frame (R91 to R95), selected by its byte 1 (R99). -/
def decodeRequest (c : Cfg) : List Byte → Except DecodeError Instr
  | addr :: func :: category :: index :: page :: body =>
    if addr ≠ c.devAddr then .error .wrongAddress
    else
      match Machine.kindOfFunction c func with
      | none => .error .unknownFunction
      | some .read => decodeReadBody category index page body
      | some .write =>
        match stripCountByte c body with
        | .error e => .error e
        | .ok rest => decodeWriteBody category index page rest
      | some .wmask =>
        match stripCountByte c body with
        | .error e => .error e
        | .ok rest => decodeWmaskBody category index page rest
  | _ => .error .incomplete

/-- The decoder: a request if the bytes are sent, a response if they are received (R99). -/
def decode (c : Cfg) : Direction → List Byte → Except DecodeError Instr
  | .sent, bytes => decodeRequest c bytes
  | .received, bytes => decodeResponse c bytes

/-- The encoder: the bytes of a frame, index 0 first on the wire (R91 to R98). -/
def encode (c : Cfg) (i : Instr) : List Byte :=
  Machine.bytesBeforeCrc c i ++ Machine.crcBytes (Machine.crcField i)

/-- The `n` bytes of a table word. opcode_table.json numbers a row with byte 0 of the frame in the
most significant place (`match` 0x0143… , `fixed` 23..8 = 0x0143 for RSP_READ), so byte 0 is the top
byte of `w` (log 9). -/
def tableBytes : Nat → Nat → List Byte
  | 0, _ => []
  | n + 1, w => BitVec.ofNat 8 (w >>> (8 * n)) :: tableBytes n w

/-- The bytes of a response of which the table gives the first three: the `N` payload bytes and the
two CRC bytes that follow are zero (log 10). -/
def padResponse (prefixBytes : List Byte) : List Byte :=
  prefixBytes ++ List.replicate ((prefixBytes.getD 2 0).toNat + 5 - prefixBytes.length) 0

/-- The direction of a table word: the table gives a response its bytes 0 to 2 only (24 bits), and
every request at least 64 bits. -/
def tableDirection (nbits : Nat) : Direction := if nbits = 24 then .received else .sent

/-- The bytes of the frame a table word stands for. -/
def tableFrame (nbits w : Nat) : List Byte :=
  match tableDirection nbits with
  | .sent => tableBytes (nbits / 8) w
  | .received => padResponse (tableBytes (nbits / 8) w)

/-- The instruction of a table word under the configuration `c`. -/
def decodeTable (c : Cfg) (nbits w : Nat) : Option Instr :=
  match decode c (tableDirection nbits) (tableFrame nbits w) with
  | .ok i => some i
  | .error _ => none

/-- The instruction the decoder reads from a table word under the example configuration, whose
constants are those of the table's `match` entries (G1, G2, log 1). -/
def decodeTableWord (nbits w : Nat) : Option Instr := decodeTable Machine.defaultCfg nbits w

end Sys2Proof
end

