-- ==== Sys2Proof/Machine/Response.lean ====
section
/-! DEFINITION. The meanings of the three response rows: what the byte that completes the frame does
(R160 to R162 with R150, R209, R218, R222). -/

namespace Sys2Proof.Machine

/-- RSP_READ (R160): with a READ in flight the payload words are delivered. -/
def execRspRead (payload : List Byte) (crc : Word) (s : State) :
    Host.Outcome State Fault Refusal :=
  .next (receiveFrame .read (encode s.cfg (.rspRead payload crc)) (wordsOf payload) s)

/-- RSP_WRITE (R161): with a WRITE in flight; the payload is discarded. -/
def execRspWrite (payload : List Byte) (crc : Word) (s : State) :
    Host.Outcome State Fault Refusal :=
  .next (receiveFrame .write (encode s.cfg (.rspWrite payload crc)) (wordsOf payload) s)

/-- RSP_WMASK (R162): with a WMASK in flight; the payload is discarded. -/
def execRspWmask (payload : List Byte) (crc : Word) (s : State) :
    Host.Outcome State Fault Refusal :=
  .next (receiveFrame .wmask (encode s.cfg (.rspWmask payload crc)) (wordsOf payload) s)

end Sys2Proof.Machine
end

