-- ==== Sys2Proof/Machine/Dispatch.lean ====
section
/-! DEFINITION. exec: one arm per row of spec/opcode_table.json. -/

namespace Sys2Proof.Machine

/-- The meaning of each instruction. -/
def exec (i : Instr) (s : State) : Host.Outcome State Fault Refusal :=
  match i with
  | .reqRead category index page count crc => Sys2Proof.Machine.execReqRead category index page count crc s
  | .reqWrite category index page value crc => Sys2Proof.Machine.execReqWrite category index page value crc s
  | .reqWmask category index page andMask orMask crc => Sys2Proof.Machine.execReqWmask category index page andMask orMask crc s
  | .rspRead payload crc => Sys2Proof.Machine.execRspRead payload crc s
  | .rspWrite payload crc => Sys2Proof.Machine.execRspWrite payload crc s
  | .rspWmask payload crc => Sys2Proof.Machine.execRspWmask payload crc s

end Sys2Proof.Machine
end

