-- ==== Sys2Proof/Machine/Events.lean ====
section
/-! DEFINITION. What each event does (R202), with the two that run an instruction: ISSUE, whose
instruction is on the command port, and RX_CONSUME, whose instruction is the frame in `acc` once it
is complete. And the hardware's clock cycle (R44, R262). -/

namespace Sys2Proof.Machine

/-- The instruction on the command port (R36, R101): the request frame of the command presented,
with the CRC the builder gives it (R140). `cmd_kind = 0` is no command (R104). -/
def portInstr (c : Cfg) (p : CmdPort) : Option Instr :=
  match kindOfCode p.kind with
  | none => none
  | some .read =>
    some (.reqRead p.category p.index p.page p.count
      (crc16 (requestHeader c .read p.category p.index p.page ++ readBody p.count)))
  | some .write =>
    some (.reqWrite p.category p.index p.page p.value
      (crc16 (requestHeader c .write p.category p.index p.page ++ writeBody c p.value)))
  | some .wmask =>
    some (.reqWmask p.category p.index p.page p.andMask p.orMask
      (crc16 (requestHeader c .wmask p.category p.index p.page ++ wmaskBody c p.andMask p.orMask)))

/-- ISSUE of what the host presents on the command port (R36, R205). With no command there, nothing
happens (R104). -/
def issuePort (p : CmdPort) (s : State) : Host.Outcome State Fault Refusal :=
  match portInstr s.cfg p with
  | none => .next { s with port := p }
  | some i => exec i { s with port := p }

/-- Step RX_CONSUME (R209): one byte is taken, and if with it `acc` is a response frame, that frame's
instruction runs. Enabled iff `fsm = LISTEN` and `rxfifo ≠ []`. -/
def rxConsume (s : State) : Host.Outcome State Fault Refusal :=
  if s.fsm = .listen then
    match s.rxfifo with
    | [] => .next s
    | b :: rest =>
      match decode s.cfg .received (s.acc ++ [b]) with
      | .ok i => exec i (takeByte b rest s)
      | .error _ => .next (takeByte b rest s)
  else .next s

/-- The platform presents a configuration: refused if illegal (R43, U7) or after the first ISSUE
(R40, U8). -/
def presentConfig (c : Cfg) (s : State) : Host.Outcome State Fault Refusal :=
  if cfgLegal c = false then .refused .illegalConfig
  else if s.issued then .refused .configAfterIssue
  else .next { s with cfg := c }

/-- In LISTEN, whether hardware takes RX_CONSUME rather than RX_TIMEOUT (R262 (a)): a waiting byte
goes first, but only one byte once the deadline has passed. -/
def consumesFirst (s : State) : Bool :=
  !s.rxfifo.isEmpty && !(s.timer == 0 && s.lateConsume)

/-- The internal step hardware takes in one clock cycle, if one is enabled (R44, R262). -/
def internalStep (s : State) : Host.Outcome State Fault Refusal :=
  match s.fsm with
  | .idle => .next s
  | .preTx => .next (settleDone s)
  | .txSend => .next (txDone s)
  | .postTx => .next (guardDone s)
  | .listen =>
    if consumesFirst s then rxConsume { s with lateConsume := s.timer == 0 }
    else .next (rxTimeout s)
  | .backoff => .next (backoffDone s)

/-- The two wire inputs of a clock cycle, RX_BYTE before WIRE_TX (R44, R262 (b), (c)). -/
def wireInputs (p : PortIn) (s : State) : State :=
  let received := if p.rxValid then rxByte p.rxData s else s
  if p.txDone then wireTx received else received

/-- One clock cycle of the hardware (R44, R262): RX_BYTE, WIRE_TX, then ISSUE or one internal step
by what `fsm` was at the start of the cycle, then TICK. While `rst = 1` no step happens (R291). -/
def clockCycle (p : PortIn) (s : State) : Host.Outcome State Fault Refusal :=
  if p.rst then .next (applyReset s)
  else
    andThen
      (if s.fsm = .idle then
        if p.cmdValid then issuePort p.cmd (wireInputs p s) else .next (wireInputs p s)
      else internalStep (wireInputs p s))
      (fun t => .next (if p.tickUs then tick t else t))

/-- What an event does. -/
def perform (e : Event) (s : State) : Host.Outcome State Fault Refusal :=
  match e with
  | .issue p => issuePort p s
  | .wireTx => .next (wireTx s)
  | .rxByte b => .next (rxByte b s)
  | .tick => .next (tick s)
  | .settleDone => .next (settleDone s)
  | .txDone => .next (txDone s)
  | .guardDone => .next (guardDone s)
  | .rxConsume => rxConsume s
  | .rxTimeout => .next (rxTimeout s)
  | .backoffDone => .next (backoffDone s)
  | .reset => .next (applyReset s)
  | .config c => presentConfig c s
  | .cycle p => clockCycle p s

end Sys2Proof.Machine
end

