-- ==== Sys2Proof/Machine/Loading.lean ====
section
/-! DEFINITION. How an instruction is placed where the next step runs it (log 4): a request on the
command port with its ISSUE due, a response as the frame whose last byte is about to be consumed. -/

namespace Sys2Proof.Machine

/-- The command-port inputs that present a request (R36, R101); a response is not a command. The
inputs a kind does not use stay as they are. -/
def portOf (p : CmdPort) : Instr → Option CmdPort
  | .reqRead category index page count _ =>
    some { p with kind := kindCode .read, category, index, page, count }
  | .reqWrite category index page value _ =>
    some { p with kind := kindCode .write, category, index, page, value }
  | .reqWmask category index page andMask orMask _ =>
    some { p with kind := kindCode .wmask, category, index, page, andMask, orMask }
  | .rspRead _ _ => none
  | .rspWrite _ _ => none
  | .rspWmask _ _ => none

/-- A request presented, its ISSUE next. -/
def loadRequest (i : Instr) (s : State) : State :=
  match portOf s.port i with
  | none => s
  | some p => { s with agenda := .issue p :: s.agenda }

/-- A frame received but for its last byte, which waits at the front of `rxfifo`, in LISTEN with a
command of kind `k` in flight, its RX_CONSUME next. -/
def loadResponse (k : CmdKind) (frame : List Byte) (s : State) : State :=
  { s with
    fsm := .listen
    cmd := { s.cmd with kind := k }
    acc := frame.dropLast
    crc := crc16 frame.dropLast
    rxfifo := frame.getLastD 0 :: s.rxfifo
    agenda := .rxConsume :: s.agenda }

/-- A table word placed for the next step. Bytes that are no frame place nothing. -/
def loadWord (nbits w : Nat) (s : State) : State :=
  match decode s.cfg (tableDirection nbits) (tableFrame nbits w) with
  | .error _ => s
  | .ok i =>
    match i.direction with
    | .sent => loadRequest i s
    | .received => loadResponse i.kind (tableFrame nbits w) s

end Sys2Proof.Machine
end

