-- ==== Sys2Proof/Machine/Step.lean ====
section
/-! DEFINITION. One step: the next event of the agenda happens (R16, R44, R202; log 4). -/

namespace Sys2Proof.Machine

/-- One atomic step. The next event leaves the agenda and happens; where nothing is due, nothing
changes. -/
def step (s : State) : Host.Outcome State Fault Refusal :=
  match s.agenda with
  | [] => .next s
  | e :: rest => perform e { s with agenda := rest }

/-- The state with a table word's instruction placed where the next step runs it. -/
def State.withFetchWord (s : State) (nbits w : Nat) : State := loadWord nbits w s

end Sys2Proof.Machine
end

