-- ==== Sys2Proof/Machine/Ports.lean ====
section
/-! DEFINITION. The output ports as functions of the state (R36 to R39). No step reads them. -/

namespace Sys2Proof.Machine

/-- `res_nwords` (R37). -/
def resNwords (s : State) : Nat := s.resWords.length

/-- `res_words` at position `j`; positions at and beyond `res_nwords` read as 0 (R37). -/
def resWordAt (s : State) (j : Nat) : Word := s.resWords.getD j 0

/-- `res_preview_len` (R37). -/
def resPreviewLen (s : State) : Nat := s.resPreview.length

/-- `res_preview` at position `j` (R37). -/
def resPreviewAt (s : State) (j : Nat) : Byte := s.resPreview.getD j 0

/-- `res_status` as its code (R23, R37, R102). -/
def resStatusCode (s : State) : BitVec 2 := statusCode s.resStatus

/-- `tx_valid` (R38). -/
def txValid (s : State) : Bool := s.fsm == .txSend && !s.txq.isEmpty

/-- `tx_data` (R38): the head of `txq` when `tx_valid`. When it is 0 the spec gives no value (U19)
and there is none here (log 16). -/
def txData (s : State) : Option Byte := if txValid s then s.txq.head? else none

/-- The records the `diag` port pulses between two states, one cycle of `diag_valid` each (R32,
R39). -/
def diagPulses (before after : State) : List DiagRecord := after.diag.drop before.diag.length

/-- `diag_level`, `diag_kind` and the 8-bit `diag_attempt` of a record (R39). The widths of the first two
are the model's: DESIGN CHOICE, log 24. -/
def diagPort (r : DiagRecord) : BitVec 1 × BitVec 2 × BitVec 8 :=
  (levelCode r.level, errCode r.kind, BitVec.ofNat 8 r.attempt)

end Sys2Proof.Machine
end

