-- ==== Sys2Proof/Machine/Remote.lean ====
section
/-! DEFINITION. What a command means to one cell of the remote register space (R62 to R64, R71). The
remote controller is not part of the block: nothing here is state and no step calls it (R17, R50). -/

namespace Sys2Proof.Machine

/-- `apply_mask(current, and_mask, or_mask)` (R64). -/
def applyMask (current andMask orMask : Word) : Word := (current &&& andMask) ||| orMask

/-- The value a frame asks the remote controller to leave in the addressed cell, where the spec states
one: a WRITE sets the cell (R63), a WMASK masks it (R64). Of a READ none is stated, since whether a read
has a side effect there is left open (R71, N14; log 19), and a response asks nothing. -/
def remoteCell (i : Instr) (current : Word) : Option Word :=
  match i with
  | .reqRead _ _ _ _ _ => none
  | .reqWrite _ _ _ value _ => some value
  | .reqWmask _ _ _ andMask orMask _ => some (applyMask current andMask orMask)
  | .rspRead _ _ => none
  | .rspWrite _ _ => none
  | .rspWmask _ _ => none

end Sys2Proof.Machine
end

