-- ==== Sys2Proof/Safety.lean ====
section
/-! DEFINITION. What a safe run of FVB is, in the terms the statements use: the invariants of R48
(10_state.md), what one command may put on the wire (R48 (I7), R228), and the words for events that
the statements' premises need (R291, R330, R332). -/

namespace Sys2Proof.Machine

/-- The invariants (I1) to (I6) of R48 and, with them, what they need to be kept by every step: the
configuration stays legal (R43), the frame in flight is the latched command's (R26), the result
registers keep their shape (R23, R253), and the timer its width (R12, R25). -/
structure Invariants (s : State) : Prop where
  /-- R43 -/
  legal : cfgLegal s.cfg = true
  /-- A transaction in flight was issued (R205). -/
  issued : s.fsm ≠ .idle → s.issued = true
  /-- (I1) -/
  txen : s.txen = true ↔ s.fsm = .preTx ∨ s.fsm = .txSend
  /-- (I2) -/
  flow : s.flow = (s.cfg.hasFlow && s.txen)
  /-- (I3) -/
  attempt : s.fsm ≠ .idle → 1 ≤ s.attempt ∧ s.attempt ≤ s.cfg.attempts
  /-- (I4) -/
  crc : s.fsm = .listen → s.crc = crc16 s.acc
  /-- (I5) -/
  txqSuffix : s.txq <:+ s.txframe
  /-- (I5) -/
  txqEmpty : s.fsm ≠ .txSend → s.txq = []
  /-- (I6) -/
  noResult : s.fsm ≠ .idle → s.resValid = false
  /-- R26 -/
  frame : s.fsm ≠ .idle → s.txframe = buildRequest s.cfg s.cmd
  /-- R12, R25 -/
  timer : s.timer < 2 ^ 32
  /-- R23, R253: code 3 is never written. -/
  status : s.resStatus ≠ .invalidChannel
  /-- R23 -/
  words : s.resWords.length ≤ 127
  /-- R23, R224 -/
  preview : s.resPreview.length ≤ s.cfg.previewBytes
  /-- Before the first ISSUE there is no preview (R49). -/
  fresh : s.issued = false → s.resPreview = []

/-- How many whole copies of `txframe` the command in flight, or the one that ended last, has put on
the wire (R48 (I7)). -/
def fullCopies (s : State) : Nat :=
  match s.fsm with
  | .preTx => s.attempt - 1
  | .txSend => s.attempt - 1
  | .backoff => s.attempt - 1
  | .postTx => s.attempt
  | .listen => s.attempt
  | .idle => s.attempt

/-- `n` copies of a frame, one behind the other. -/
def copies (n : Nat) (frame : List Byte) : List Byte := (List.replicate n frame).flatten

/-- (I7) of R48 for a command issued when `wire_out` was `before`: since then the wire has carried
whole copies of `txframe`, at most `ATTEMPTS`, and, in `TX_SEND`, the part of one more of which
`txq` is the rest. -/
structure WireAccount (before : List Byte) (s : State) : Prop where
  issued : s.issued = true
  attemptPos : 1 ≤ s.attempt
  attemptBound : s.attempt ≤ s.cfg.attempts
  shape : ∃ part, s.wireOut = before ++ copies (fullCopies s) s.txframe ++ part
    ∧ (s.fsm = .txSend → part ++ s.txq = s.txframe) ∧ (s.fsm ≠ .txSend → part = [])

/-- The event asserts the reset input (R291); the premise "no reset after the start of the run"
(R332) excludes it. -/
def Event.resets : Event → Bool
  | .reset => true
  | .cycle p => p.rst
  | _ => false

/-- The event offers a command (R36, R330); `cmd_kind = 0` is none (R104). -/
def Event.offersCommand : Event → Bool
  | .issue p => p.kind != 0
  | .cycle p => p.cmdValid && p.cmd.kind != 0
  | _ => false

/-- The event is one atomic step of R202, not a whole clock cycle, a reset or a configuration. -/
def Event.atomic : Event → Bool
  | .reset => false
  | .config _ => false
  | .cycle _ => false
  | _ => true

/-- The byte an event brings into the receive queue (R38, R46). -/
def Event.arriving : Event → List Byte
  | .rxByte b => [b]
  | .cycle p => if p.rxValid then [p.rxData] else []
  | _ => []

/-- The step of R202 that falls into a clock cycle beside the wire inputs and TICK, by `fsm` at the
start of the cycle (R44): ISSUE of the command offered, or one internal step. In LISTEN, RX_CONSUME if a
byte waits or arrives in this cycle (R262 (b)), unless one was already consumed after the deadline
(R262 (a)); RX_TIMEOUT otherwise. -/
def mainEvent (p : PortIn) (s : State) : List Event :=
  match s.fsm with
  | .idle => if p.cmdValid then [.issue p.cmd] else []
  | .preTx => [.settleDone]
  | .txSend => [.txDone]
  | .postTx => [.guardDone]
  | .listen =>
    if (s.rxfifo ≠ [] ∨ p.rxValid = true) ∧ ¬(s.timer = 0 ∧ s.lateConsume = true)
    then [.rxConsume] else [.rxTimeout]
  | .backoff => [.backoffDone]

/-- The steps that fall into one clock cycle with the inputs `p`, in the order of R44: RX_BYTE, WIRE_TX,
ISSUE or one internal step, TICK. -/
def cycleEvents (p : PortIn) (s : State) : List Event :=
  (if p.rxValid then [.rxByte p.rxData] else []) ++ (if p.txDone then [.wireTx] else [])
    ++ mainEvent p s ++ (if p.tickUs then [.tick] else [])

/-- How many TICKs the event brings (R39, R45). -/
def Event.ticks : Event → Nat
  | .tick => 1
  | .cycle p => if p.tickUs then 1 else 0
  | _ => 0

/-- How many TICKs a list of events brings. -/
def ticksOf (events : List Event) : Nat := (events.map Event.ticks).sum

/-- `n` steps of the machine behind Host/Core.lean. -/
def runSteps (n : Nat) (s : State) : Host.Outcome State Fault Refusal := Sys2Proof.core.run n s

/-- The states that wait for `timer = 0` and for nothing else (R312). -/
def Fsm.timed : Fsm → Bool
  | .preTx => true
  | .postTx => true
  | .backoff => true
  | _ => false

/-- The state without the model's own arbitration bit, whose only reader is the hardware's clock cycle
(R262 (a), log 13). -/
def withoutArbiter (s : State) : State := { s with lateConsume := false }

end Sys2Proof.Machine
end

