-- ==== Sys2Proof/Certificates/Slice0/Obligations.lean ====
section
/-! DEFINITION. The statements for the provers, from the numbered rules of spec/. Where a statement
gives the state after a step as a record update of the state before, every field it does not name is
unchanged: that is its frame. -/

open Sys2Proof Sys2Proof.Machine

/-! ### The CRC unit (40_crc.md) -/

/-- R122: the bit-serial form. Eight serial steps with the data bits least significant first are one
update; the feedback bit enters at bit 15 and is XORed into the bits that arrive at 13 and 0. -/
def Obligations.CrcSerialFormAgrees : Prop :=
  (∀ (c : Word) (b : Byte),
    (List.range 8).foldl (fun r i => crcSerial r (b.getLsbD i)) c = crc16Update c b)
  ∧ (∀ (c : Word) (d : Bool) (i : Nat), i < 16 →
    (crcSerial c d).getLsbD i =
      if i = 15 then (c.getLsbD 0 ^^ d)
      else if i = 13 ∨ i = 0 then (c.getLsbD (i + 1) ^^ (c.getLsbD 0 ^^ d))
      else c.getLsbD (i + 1))

/-- R121, corner case: for a fixed byte the update is a bijection on words. -/
def Obligations.CrcUpdateIsBijective : Prop :=
  ∀ b : Byte, Function.Bijective (fun c : Word => crc16Update c b)

/-- R125: the residue law, and that it needs the low byte first. -/
def Obligations.CrcResidueIsZero : Prop :=
  (∀ s : List Byte, crc16 (appendCrc s) = 0)
  ∧ crc16 ([0x01, 0x43, 0x03, 0x02, 0x00, 0x01]
      ++ [hi8 (crc16 [0x01, 0x43, 0x03, 0x02, 0x00, 0x01]),
          lo8 (crc16 [0x01, 0x43, 0x03, 0x02, 0x00, 0x01])]) = 0x7BEB

/-- R126: a whole frame is valid exactly when its last two bytes are the CRC of those before them. -/
def Obligations.CrcValidIffFieldIsRight : Prop :=
  ∀ (s : List Byte) (l h : Byte),
    crcValid (s ++ [l, h]) = true ↔ l = lo8 (crc16 s) ∧ h = hi8 (crc16 s)

/-! ### The request builder (41_frame_codec.md section 1) -/

/-- R145: every built request has residue zero, address and function in front, and R90's length. -/
def Obligations.BuiltRequestShape : Prop :=
  ∀ (c : Cfg) (m : Cmd),
    crc16 (buildRequest c m) = 0
    ∧ (buildRequest c m)[0]? = some c.devAddr
    ∧ (buildRequest c m)[1]? = some (fc c m.kind)
    ∧ (buildRequest c m).length =
        match m.kind with
        | .read => 8
        | .write => if c.writeCountByte then 10 else 9
        | .wmask => if c.writeCountByte then 12 else 11

/-- R91 to R95: the bytes of the three requests, with and without the count byte. -/
def Obligations.RequestBytesByKind : Prop :=
  ∀ (c : Cfg) (category page index count : Byte) (value andMask orMask : Word),
    buildRequest c ⟨.read, category, page, index, count, value, andMask, orMask⟩
        = appendCrc [c.devAddr, c.fcRead, category, index, page, count]
    ∧ buildRequest c ⟨.write, category, page, index, count, value, andMask, orMask⟩
        = appendCrc ([c.devAddr, c.fcWrite, category, index, page]
            ++ (if c.writeCountByte then [0x01] else []) ++ [hi8 value, lo8 value])
    ∧ buildRequest c ⟨.wmask, category, page, index, count, value, andMask, orMask⟩
        = appendCrc ([c.devAddr, c.fcWmask, category, index, page]
            ++ (if c.writeCountByte then [0x01] else [])
            ++ [hi8 andMask, lo8 andMask, hi8 orMask, lo8 orMask])

/-- R36, R101, R104, R140: `cmd_kind` 0 is no command, 1 a READ, 2 a WRITE, 3 a WMASK; the instruction
on the command port is sent, well-formed, and its encoding is the frame the builder makes of the command
presented. -/
def Obligations.PortInstructionEncodesBuiltFrame : Prop :=
  ∀ (c : Cfg) (p : CmdPort),
    (p.kind = 0 → portInstr c p = none)
    ∧ (p.kind = 1 → ∃ i, portInstr c p = some i ∧ i.kind = .read)
    ∧ (p.kind = 2 → ∃ i, portInstr c p = some i ∧ i.kind = .write)
    ∧ (p.kind = 3 → ∃ i, portInstr c p = some i ∧ i.kind = .wmask)
    ∧ (∀ i, portInstr c p = some i →
      i.direction = .sent ∧ i.wellFormed c = true
      ∧ encode c i = buildRequest c
          ⟨i.kind, p.category, p.page, p.index, p.count, p.value, p.andMask, p.orMask⟩)

/-! ### Decoding and encoding (30_encoding.md) -/

/-- A few words written out from the table decode to the instructions they stand for. -/
def Obligations.TableWordsDecode : Prop :=
  decodeTableWord 64 0x0143030200012441 = some (.reqRead 0x03 0x02 0x00 0x01 0x4124)
  ∧ decodeTableWord 72 0x014402000000D2FD19 = some (.reqWrite 0x02 0x00 0x00 0x00D2 0x19FD)
  ∧ decodeTableWord 88 0x0145020700FFF80001913D
      = some (.reqWmask 0x02 0x07 0x00 0xFFF8 0x0001 0x3D91)
  ∧ decodeTableWord 24 0x014302 = some (.rspRead [0x00, 0x00] 0x0000)
  ∧ decodeTableWord 24 0x014400 = some (.rspWrite [] 0x0000)
  ∧ decodeTableWord 24 0x014501 = some (.rspWmask [0x00] 0x0000)

/-- Decoding the encoding of a frame gives the frame back, for every frame whose payload fits its
byte count, every legal configuration, every value of every operand and of the CRC field. -/
def Obligations.DecodeEncodeRoundTrip : Prop :=
  ∀ (c : Cfg) (i : Instr), cfgLegal c = true → i.payloadFits = true →
    decode c i.direction (encode c i) = .ok i

/-- Whatever decodes is the encoding of what it decodes to: no bit of a frame is dropped, and no two
byte sequences stand for one frame. -/
def Obligations.EncodeDecodeRoundTrip : Prop :=
  ∀ (c : Cfg) (d : Direction) (bytes : List Byte) (i : Instr), decode c d bytes = .ok i →
    encode c i = bytes ∧ i.direction = d ∧ i.payloadFits = true

/-! ### Recognising responses (41_frame_codec.md section 2) -/

/-- R157: what an accepted frame is. The smallest accepted frame has 5 bytes, the largest 260. -/
def Obligations.AcceptedFrameShape : Prop :=
  (∀ (c : Cfg) (a : List Byte) (f : Byte) (w : List Word), frameStatus c a f = .good w →
    a.length = (byteAt a 2).toNat + 5 ∧ byteAt a 0 = c.devAddr ∧ byteAt a 1 = f ∧ crc16 a = 0
    ∧ w.length = (byteAt a 2).toNat / 2 ∧ 5 ≤ a.length ∧ a.length ≤ 260)
  ∧ (∀ (c : Cfg) (f : Byte),
    (∃ a w, a.length = 5 ∧ frameStatus c a f = .good w)
    ∧ (∃ a w, a.length = 260 ∧ frameStatus c a f = .good w))

/-- R156: only the first 260 bytes and whether there are more can influence the result. -/
def Obligations.OnlyFirst260BytesMatter : Prop :=
  ∀ (c : Cfg) (a b : List Byte) (f : Byte), a.take 260 = b.take 260 →
    min a.length 261 = min b.length 261 → frameStatus c a f = frameStatus c b f

/-- R152: after UNMATCHED or OVERRUN every longer buffer is OVERRUN; there is no resynchronisation. -/
def Obligations.UnmatchedThenAlwaysOverrun : Prop :=
  ∀ (c : Cfg) (a more : List Byte) (f : Byte),
    frameStatus c a f = .unmatched ∨ frameStatus c a f = .overrun → more ≠ [] →
    frameStatus c (a ++ more) f = .overrun

/-- R153, R263: CRC_BAD exactly at the expected length with the right header and a non-zero residue;
a wrong header is never a CRC failure. -/
def Obligations.CrcBadNeedsMatchingHeader : Prop :=
  ∀ (c : Cfg) (a : List Byte) (f : Byte), frameStatus c a f = .crcBad ↔
    3 ≤ a.length ∧ a.length = (byteAt a 2).toNat + 5 ∧ byteAt a 0 = c.devAddr ∧ byteAt a 1 = f
    ∧ crc16 a ≠ 0

/-- R304 (hazard H4): a request whose category plus 5 is its own length is itself accepted as the
response to it; for a READ of category 0x03 the word delivered is made of index and page. -/
def Obligations.EchoedRequestIsAccepted : Prop :=
  ∀ (c : Cfg) (m : Cmd), m.category.toNat + 5 = (buildRequest c m).length →
    ∃ w, frameStatus c (buildRequest c m) (fc c m.kind) = .good w
      ∧ (m.kind = .read → w = [mkWord m.index m.page])

/-! ### The three requests: ISSUE (43_transaction_engine.md R203, R205, R210 to R212) -/

/-- R205 for READ (R210): in IDLE the command is latched, the frame built, the first attempt begun;
in any other state nothing changes. -/
def Obligations.ReadIsIssued : Prop :=
  ∀ (s : State) (category index page count : Byte) (crc : Word),
    (s.fsm = .idle →
      exec (.reqRead category index page count crc) s = .next { s with
        cmd := ⟨.read, category, page, index, count, s.port.value, s.port.andMask, s.port.orMask⟩
        txframe := appendCrc [s.cfg.devAddr, s.cfg.fcRead, category, index, page, count]
        attempt := 1
        resValid := false
        issued := true
        rxfifo := if s.cfg.flushRxBeforeTx then [] else s.rxfifo
        txen := true
        flow := if s.cfg.hasFlow then true else s.flow
        timer := s.cfg.preTxSettleUs
        fsm := .preTx })
    ∧ (s.fsm ≠ .idle → exec (.reqRead category index page count crc) s = .next s)

/-- R205 for WRITE (R211). -/
def Obligations.WriteIsIssued : Prop :=
  ∀ (s : State) (category index page : Byte) (value crc : Word),
    (s.fsm = .idle →
      exec (.reqWrite category index page value crc) s = .next { s with
        cmd := ⟨.write, category, page, index, s.port.count, value, s.port.andMask, s.port.orMask⟩
        txframe := appendCrc ([s.cfg.devAddr, s.cfg.fcWrite, category, index, page]
          ++ (if s.cfg.writeCountByte then [0x01] else []) ++ [hi8 value, lo8 value])
        attempt := 1
        resValid := false
        issued := true
        rxfifo := if s.cfg.flushRxBeforeTx then [] else s.rxfifo
        txen := true
        flow := if s.cfg.hasFlow then true else s.flow
        timer := s.cfg.preTxSettleUs
        fsm := .preTx })
    ∧ (s.fsm ≠ .idle → exec (.reqWrite category index page value crc) s = .next s)

/-- R205 for WMASK (R212): the masks are carried, not applied. -/
def Obligations.WmaskIsIssued : Prop :=
  ∀ (s : State) (category index page : Byte) (andMask orMask crc : Word),
    (s.fsm = .idle →
      exec (.reqWmask category index page andMask orMask crc) s = .next { s with
        cmd := ⟨.wmask, category, page, index, s.port.count, s.port.value, andMask, orMask⟩
        txframe := appendCrc ([s.cfg.devAddr, s.cfg.fcWmask, category, index, page]
          ++ (if s.cfg.writeCountByte then [0x01] else [])
          ++ [hi8 andMask, lo8 andMask, hi8 orMask, lo8 orMask])
        attempt := 1
        resValid := false
        issued := true
        rxfifo := if s.cfg.flushRxBeforeTx then [] else s.rxfifo
        txen := true
        flow := if s.cfg.hasFlow then true else s.flow
        timer := s.cfg.preTxSettleUs
        fsm := .preTx })
    ∧ (s.fsm ≠ .idle → exec (.reqWmask category index page andMask orMask crc) s = .next s)

/-! ### The three responses (41_frame_codec.md R160 to R162; R218, R222) -/

/-- R160, R218: a READ's response whose CRC field is right ends the transaction with OK and the
payload's whole words, each high byte first; an odd last byte is in none (R68). -/
def Obligations.ReadResponseDeliversWords : Prop :=
  ∀ (s : State) (payload : List Byte) (crc : Word),
    s.fsm = .listen → s.cmd.kind = .read → payload.length ≤ 255 →
    crc = crc16 ([s.cfg.devAddr, s.cfg.fcRead, BitVec.ofNat 8 payload.length] ++ payload) →
    exec (.rspRead payload crc) s = .next { s with
      resStatus := .ok
      resWords := (List.range (payload.length / 2)).map
        fun j => mkWord (payload.getD (2 * j) 0) (payload.getD (2 * j + 1) 0)
      resPreview := []
      resValid := true
      fsm := .idle }

/-- R161, R218: a WRITE's response whose CRC field is right ends the transaction with OK; the payload
is discarded. -/
def Obligations.WriteResponseCompletes : Prop :=
  ∀ (s : State) (payload : List Byte) (crc : Word),
    s.fsm = .listen → s.cmd.kind = .write → payload.length ≤ 255 →
    crc = crc16 ([s.cfg.devAddr, s.cfg.fcWrite, BitVec.ofNat 8 payload.length] ++ payload) →
    exec (.rspWrite payload crc) s = .next { s with
      resStatus := .ok
      resWords := []
      resPreview := []
      resValid := true
      fsm := .idle }

/-- R162, R218: a WMASK's response whose CRC field is right ends the transaction with OK. -/
def Obligations.WmaskResponseCompletes : Prop :=
  ∀ (s : State) (payload : List Byte) (crc : Word),
    s.fsm = .listen → s.cmd.kind = .wmask → payload.length ≤ 255 →
    crc = crc16 ([s.cfg.devAddr, s.cfg.fcWmask, BitVec.ofNat 8 payload.length] ++ payload) →
    exec (.rspWmask payload crc) s = .next { s with
      resStatus := .ok
      resWords := []
      resPreview := []
      resValid := true
      fsm := .idle }

/-- R153, R222 (R251): a response to the command in flight whose CRC field is wrong fails the attempt
with CrcMismatch, at once; with a retry left the engine backs off, at the last attempt the failure is
reported with the preview of R224. For each of the three kinds. -/
def Obligations.WrongCrcFailsTheAttempt : Prop :=
  ∀ (s : State) (k : CmdKind) (payload : List Byte) (crc : Word),
    s.fsm = .listen → s.cmd.kind = k → payload.length ≤ 255 →
    crc ≠ crc16 ([s.cfg.devAddr, fc s.cfg k, BitVec.ofNat 8 payload.length] ++ payload) →
    (s.attempt < s.cfg.attempts →
      exec (responseOf k payload crc) s = .next { s with
        diag := s.diag ++ [⟨.debug, .crcMismatch, s.attempt⟩]
        attempt := s.attempt + 1
        timer := s.cfg.retryBackoffUs
        fsm := .backoff })
    ∧ (s.cfg.attempts ≤ s.attempt →
      exec (responseOf k payload crc) s = .next { s with
        diag := s.diag ++ [⟨.warn, .crcMismatch, s.attempt⟩]
        resStatus := .crcMismatch
        resWords := []
        resPreview := s.acc.take s.cfg.previewBytes
        resValid := true
        fsm := .idle })

/-- R103, R152: a response of a kind that is not in flight, or one that is not listened to, changes
nothing, whatever its CRC. For each of the three kinds. -/
def Obligations.UnexpectedResponseChangesNothing : Prop :=
  ∀ (s : State) (k : CmdKind) (payload : List Byte) (crc : Word),
    s.fsm ≠ .listen ∨ s.cmd.kind ≠ k → exec (responseOf k payload crc) s = .next s

/-! ### The step -/

/-- When ISSUE is next and the bytes of a well-formed request decode to the instruction that the inputs
presented on the command port stand for, whatever the inputs its kind does not use hold (R22, U12), the
step is that instruction, with the event taken off the agenda and the port inputs as presented. -/
def Obligations.StepRunsThePresentedRequest : Prop :=
  ∀ (s : State) (bytes : List Byte) (i : Instr) (p : CmdPort) (rest : List Event),
    decode s.cfg .sent bytes = .ok i → i.wellFormed s.cfg = true → portOf p i = some p →
    s.agenda = .issue p :: rest →
    step s = exec i { s with agenda := rest, port := p }

/-- When RX_CONSUME is next and the waiting byte completes a response frame, the step is that frame's
instruction, with the byte moved from `rxfifo` to `acc` and into the running checksum (R209). -/
def Obligations.StepRunsTheReceivedResponse : Prop :=
  ∀ (s : State) (i : Instr) (b : Byte) (waiting : List Byte) (rest : List Event),
    s.agenda = .rxConsume :: rest → s.fsm = .listen → s.rxfifo = b :: waiting →
    decode s.cfg .received (s.acc ++ [b]) = .ok i →
    step s = exec i { s with
      agenda := rest
      rxfifo := waiting
      acc := s.acc ++ [b]
      crc := crc16Update s.crc b }

/-- A table word placed by withFetchWord is what the very next step runs. -/
def Obligations.PlacedWordRunsNext : Prop :=
  ∀ (s : State) (nbits w : Nat) (i : Instr), decodeTable s.cfg nbits w = some i →
    ∃ t, step (s.withFetchWord nbits w) = exec i t
      ∧ (i.direction = .sent → ∃ p, portOf s.port i = some p ∧ t = { s with port := p })
      ∧ (i.direction = .received → t.fsm = .listen ∧ t.cmd.kind = i.kind
          ∧ t.acc = encode s.cfg i ∧ t.crc = crc16 t.acc ∧ t.cfg = s.cfg ∧ t.rxfifo = s.rxfifo)

/-- R104: `cmd_kind = 0` is not a command. Only the host's port inputs are as it left them. -/
def Obligations.NoCommandNoStep : Prop :=
  ∀ (s : State) (p : CmdPort) (rest : List Event), s.agenda = .issue p :: rest → p.kind = 0 →
    step s = .next { s with agenda := rest, port := p }

/-- R45: TICK. -/
def Obligations.TickCountsDown : Prop :=
  ∀ (s : State) (rest : List Event), s.agenda = .tick :: rest →
    step s = .next { s with
      agenda := rest
      timer := if 0 < s.timer then s.timer - 1 else s.timer }

/-- R46: RX_BYTE queues its byte in every state. -/
def Obligations.ReceivedByteIsQueued : Prop :=
  ∀ (s : State) (b : Byte) (rest : List Event), s.agenda = .rxByte b :: rest →
    step s = .next { s with agenda := rest, rxfifo := s.rxfifo ++ [b] }

/-- R47: WIRE_TX. (That it changes nothing where it is not enabled is log 5.) -/
def Obligations.WireTakesTheNextByte : Prop :=
  ∀ (s : State) (rest : List Event), s.agenda = .wireTx :: rest →
    (∀ b q, s.fsm = .txSend → s.txq = b :: q →
      step s = .next { s with agenda := rest, wireOut := s.wireOut ++ [b], txq := q })
    ∧ (¬ (s.fsm = .txSend ∧ s.txq ≠ []) → step s = .next { s with agenda := rest })

/-- R206: SETTLE_DONE. (That it changes nothing where it is not enabled is log 5.) -/
def Obligations.SettleDoneStartsSending : Prop :=
  ∀ (s : State) (rest : List Event), s.agenda = .settleDone :: rest →
    step s = .next (
      if s.fsm = .preTx ∧ s.timer = 0 then
        { s with agenda := rest, txq := s.txframe, fsm := .txSend }
      else { s with agenda := rest })

/-- R207: TX_DONE, with the guard time of R181. (That it changes nothing where it is not enabled is
log 5.) -/
def Obligations.TxDoneReleasesTheLine : Prop :=
  ∀ (s : State) (rest : List Event), s.agenda = .txDone :: rest →
    step s = .next (
      if s.fsm = .txSend ∧ s.txq = [] then
        { s with
          agenda := rest
          txen := false
          flow := if s.cfg.hasFlow then false else s.flow
          timer := max s.cfg.guardFloorUs
            (frameTimeUs s.cfg * s.cfg.worstCaseFrameBytes + 2 * frameTimeUs s.cfg)
          fsm := .postTx }
      else { s with agenda := rest })

/-- R208: GUARD_DONE. (The arbitration bit is the model's own, log 13; that the event changes nothing
where it is not enabled is log 5.) -/
def Obligations.GuardDoneStartsListening : Prop :=
  ∀ (s : State) (rest : List Event), s.agenda = .guardDone :: rest →
    step s = .next (
      if s.fsm = .postTx ∧ s.timer = 0 then
        { s with
          agenda := rest
          acc := []
          crc := 0xFFFF
          timer := s.cfg.rxTimeoutUs
          fsm := .listen
          lateConsume := false }
      else { s with agenda := rest })

/-- R221, R222, R224: RX_TIMEOUT fails the attempt; it does not need `rxfifo` to be empty. (That it
changes nothing where it is not enabled is log 5.) -/
def Obligations.TimeoutFailsTheAttempt : Prop :=
  ∀ (s : State) (rest : List Event), s.agenda = .rxTimeout :: rest →
    step s = .next (
      if s.fsm = .listen ∧ s.timer = 0 then
        if s.attempt < s.cfg.attempts then
          { s with
            agenda := rest
            diag := s.diag ++ [⟨.debug, .timeout, s.attempt⟩]
            attempt := s.attempt + 1
            timer := s.cfg.retryBackoffUs
            fsm := .backoff }
        else
          { s with
            agenda := rest
            diag := s.diag ++ [⟨.warn, .timeout, s.attempt⟩]
            resStatus := .timeout
            resWords := []
            resPreview := s.acc.take s.cfg.previewBytes
            resValid := true
            fsm := .idle }
      else { s with agenda := rest })

/-- R223, R203: BACKOFF_DONE begins the next attempt, with the flush of R171. (That it changes nothing
where it is not enabled is log 5.) -/
def Obligations.BackoffDoneStartsTheNextAttempt : Prop :=
  ∀ (s : State) (rest : List Event), s.agenda = .backoffDone :: rest →
    step s = .next (
      if s.fsm = .backoff ∧ s.timer = 0 then
        { s with
          agenda := rest
          rxfifo := if s.cfg.flushRxBeforeTx then [] else s.rxfifo
          txen := true
          flow := if s.cfg.hasFlow then true else s.flow
          timer := s.cfg.preTxSettleUs
          fsm := .preTx }
      else { s with agenda := rest })

/-- R209: RX_CONSUME, which decodes and runs an instruction, is the spec's case over
`frame_status(acc, fc(cmd.kind))` on the extended `acc`, for every legal configuration. (That it
changes nothing where it is not enabled is log 5.) -/
def Obligations.ConsumeFollowsFrameStatus : Prop :=
  ∀ (s : State) (rest : List Event), cfgLegal s.cfg = true → s.agenda = .rxConsume :: rest →
    (∀ b waiting, s.fsm = .listen → s.rxfifo = b :: waiting →
      step s = .next (
        let taken := { s with
          agenda := rest
          rxfifo := waiting
          acc := s.acc ++ [b]
          crc := crc16Update s.crc b }
        match frameStatus s.cfg taken.acc (fc s.cfg s.cmd.kind) with
        | .good words => completeOk words taken
        | .crcBad => attemptFailed .crcMismatch taken
        | .incomplete => taken
        | .unmatched => taken
        | .overrun => taken))
    ∧ (¬ (s.fsm = .listen ∧ s.rxfifo ≠ []) → step s = .next { s with agenda := rest })

/-- R209, R218: a whole valid response to the command in flight, waiting at the front of the queue
when the attempt begins to listen, is taken byte by byte and ends the transaction with OK at its
last byte; the bytes behind it stay. -/
def Obligations.ValidResponseIsTakenByteByByte : Prop :=
  ∀ (s : State) (i : Instr) (behind : List Byte) (rest : List Event),
    cfgLegal s.cfg = true → i.direction = .received → i.payloadFits = true →
    crcField i = crc16 (bytesBeforeCrc s.cfg i) →
    s.fsm = .listen → s.cmd.kind = i.kind → s.acc = [] → s.crc = 0xFFFF →
    s.rxfifo = encode s.cfg i ++ behind →
    s.agenda = List.replicate (encode s.cfg i).length .rxConsume ++ rest →
    runSteps (encode s.cfg i).length s = .next { s with
      agenda := rest
      rxfifo := behind
      acc := encode s.cfg i
      crc := 0
      resStatus := .ok
      resWords := if i.kind = .read then wordsOf (payloadOf i) else []
      resPreview := []
      resValid := true
      fsm := .idle }

/-! ### Reset, configuration, stops -/

/-- R49: the reset value of every element the table gives one. -/
def Obligations.ResetValues : Prop :=
  State.reset.fsm = .idle ∧ State.reset.resValid = false ∧ State.reset.resStatus = .ok
  ∧ State.reset.resWords = [] ∧ State.reset.resPreview = [] ∧ State.reset.attempt = 1
  ∧ State.reset.timer = 0 ∧ State.reset.txframe = [] ∧ State.reset.txq = []
  ∧ State.reset.txen = false ∧ State.reset.flow = false ∧ State.reset.rxfifo = []
  ∧ State.reset.acc = [] ∧ State.reset.crc = 0xFFFF ∧ State.reset.diag = []
  ∧ State.reset.wireOut = [] ∧ cmdReady State.reset = true

/-- R291: from any state the reset input, as an event or in a clock cycle, abandons what is in flight
and leaves every element at its reset value, with the configuration the platform supplied. What `cmd` is
then is left open (R49, U13). That the model has this move although R332 gives the spec's model none,
and what it does to the model's own fields, is a choice: log 11. -/
def Obligations.ResetInputAbandonsTheTransaction : Prop :=
  ∀ (s : State) (e : Event) (rest : List Event), s.agenda = e :: rest → e.resets = true →
    ∃ c : Cmd, step s = .next
      { State.reset with cfg := s.cfg, cmd := c, port := s.port, agenda := rest }

/-- R40, R43: a legal configuration presented before the first ISSUE is taken; an illegal one is
refused, and so is one presented later. (The order of the two refusals is the model's: log 12.) -/
def Obligations.ConfigurationIsTakenOnlyBeforeTheFirstIssue : Prop :=
  ∀ (s : State) (c : Cfg) (rest : List Event), s.agenda = .config c :: rest →
    (cfgLegal c = true → s.issued = false → step s = .next { s with agenda := rest, cfg := c })
    ∧ (cfgLegal c = false → step s = .refused .illegalConfig)
    ∧ (cfgLegal c = true → s.issued = true → step s = .refused .configAfterIssue)

/-- R250, "no fatal error path": the only steps that do not answer a next state are refused
presentations of a configuration; every instruction, in every state, answers a next state. -/
def Obligations.NothingButConfigurationStops : Prop :=
  (∀ (i : Instr) (s : State), ∃ t, exec i s = .next t)
  ∧ (∀ s : State, (∀ c rest, s.agenda ≠ .config c :: rest) → ∃ t, step s = .next t)

/-- R40: no step changes the configuration once a command has been issued; before that only the
platform's presentation of a legal one does. -/
def Obligations.ConfigurationIsConstant : Prop :=
  ∀ s t : State, step s = .next t →
    t.cfg = s.cfg ∨ s.issued = false ∧ cfgLegal t.cfg = true
      ∧ ∃ rest, s.agenda = .config t.cfg :: rest

/-! ### Invariants (R48) -/

/-- The invariants hold after reset. (That the configuration there is legal is the model's choice of
values: log 1.) -/
def Obligations.InvariantsHoldAtReset : Prop := Invariants State.reset

/-- R48, (I1) to (I6), with the legality of `cfg`, the frame of R26 and the shape of the result
registers: every step, clock cycles and resets among them, keeps them. -/
def Obligations.EveryStepKeepsTheInvariants : Prop :=
  ∀ s t : State, Invariants s → step s = .next t → Invariants t

/-- R48 (I7), its beginning: a command issued in IDLE starts with nothing of it on the wire. -/
def Obligations.IssueStartsTheWireAccount : Prop :=
  ∀ (s : State) (p : CmdPort) (rest : List Event), cfgLegal s.cfg = true → s.fsm = .idle →
    s.agenda = .issue p :: rest → p.kind ≠ 0 →
    ∃ t, step s = .next t ∧ WireAccount s.wireOut t ∧ t.fsm = .preTx ∧ t.wireOut = s.wireOut

/-- R48 (I7), R228: while a command is in flight, every step but a reset keeps the account: the wire
has carried whole copies of `txframe`, never more than `ATTEMPTS`, and a beginning of one more only
in TX_SEND. -/
def Obligations.EveryStepKeepsTheWireAccount : Prop :=
  ∀ (s t : State) (e : Event) (rest : List Event) (before : List Byte),
    WireAccount before s → s.fsm ≠ .idle → s.agenda = e :: rest → e.resets = false →
    step s = .next t → WireAccount before t

/-! ### Rules over all steps -/

/-- R227: the transition table of `fsm`; no other transition exists. Here for the atomic steps of
R202; a clock cycle is a run of them (ClockCycleIsARunOfEvents). -/
def Obligations.FsmFollowsTheTransitionTable : Prop :=
  ∀ (s t : State) (e : Event) (rest : List Event),
    s.agenda = e :: rest → e.atomic = true → step s = .next t →
    t.fsm = s.fsm
    ∨ (s.fsm = .idle ∧ (∃ p, e = .issue p ∧ p.kind ≠ 0) ∧ t.fsm = .preTx)
    ∨ (s.fsm = .preTx ∧ e = .settleDone ∧ s.timer = 0 ∧ t.fsm = .txSend)
    ∨ (s.fsm = .txSend ∧ e = .txDone ∧ s.txq = [] ∧ t.fsm = .postTx)
    ∨ (s.fsm = .postTx ∧ e = .guardDone ∧ s.timer = 0 ∧ t.fsm = .listen)
    ∨ (s.fsm = .listen ∧ e = .rxConsume ∧ s.rxfifo ≠ [] ∧ t.fsm = .idle ∧ t.resStatus = .ok)
    ∨ (s.fsm = .listen ∧ e = .rxConsume ∧ s.rxfifo ≠ [] ∧ s.attempt < s.cfg.attempts
        ∧ t.fsm = .backoff)
    ∨ (s.fsm = .listen ∧ e = .rxConsume ∧ s.rxfifo ≠ [] ∧ s.cfg.attempts ≤ s.attempt
        ∧ t.fsm = .idle ∧ t.resStatus = .crcMismatch)
    ∨ (s.fsm = .listen ∧ e = .rxTimeout ∧ s.timer = 0 ∧ s.attempt < s.cfg.attempts
        ∧ t.fsm = .backoff)
    ∨ (s.fsm = .listen ∧ e = .rxTimeout ∧ s.timer = 0 ∧ s.cfg.attempts ≤ s.attempt
        ∧ t.fsm = .idle ∧ t.resStatus = .timeout)
    ∨ (s.fsm = .backoff ∧ e = .backoffDone ∧ s.timer = 0 ∧ t.fsm = .preTx)

/-- R226, R178: a transaction ends only out of LISTEN, with a result present, the line in receive
mode and nothing left to send. -/
def Obligations.TransactionEndsInReceiveMode : Prop :=
  ∀ (s t : State) (e : Event) (rest : List Event), Invariants s → s.fsm ≠ .idle →
    s.agenda = e :: rest → e.resets = false → step s = .next t → t.fsm = .idle →
    s.fsm = .listen ∧ t.resValid = true ∧ t.txen = false ∧ t.flow = false ∧ t.txq = []

/-- R37: in IDLE the result stays as it is under every event that offers no command, as `cmd_kind = 0`
offers none (R104), and is no reset. -/
def Obligations.ResultStaysUntilTheNextIssue : Prop :=
  ∀ (s t : State) (e : Event) (rest : List Event), s.fsm = .idle → s.agenda = e :: rest →
    e.offersCommand = false → e.resets = false → step s = .next t →
    t.fsm = .idle ∧ t.resValid = s.resValid ∧ t.resStatus = s.resStatus
    ∧ t.resWords = s.resWords ∧ t.resPreview = s.resPreview

/-- R26, R78, R204: while a transaction is in flight neither the latched command nor its frame
changes, whatever the host offers, short of a reset. -/
def Obligations.CommandInFlightIsConstant : Prop :=
  ∀ (s t : State) (e : Event) (rest : List Event), s.fsm ≠ .idle → s.agenda = e :: rest →
    e.resets = false → step s = .next t → t.cmd = s.cmd ∧ t.txframe = s.txframe

/-- R29, R46, R177, R261: with the flush off no received byte is lost. The byte an event brings joins the
back of the queue, and a step takes at most the byte at the front, only in LISTEN, and that byte joins
`acc`. -/
def Obligations.NoReceivedByteIsLost : Prop :=
  ∀ (s t : State) (e : Event) (rest : List Event), s.cfg.flushRxBeforeTx = false →
    s.agenda = e :: rest → e.resets = false → step s = .next t →
    (t.rxfifo = s.rxfifo ++ e.arriving ∧ (s.fsm = .listen → t.acc = s.acc))
    ∨ (s.fsm = .listen ∧ ∃ b waiting, s.rxfifo ++ e.arriving = b :: waiting
        ∧ t.rxfifo = waiting ∧ t.acc = s.acc ++ [b])

/-- R174, R28: bytes reach the wire only in TX_SEND, with transmit-enable asserted, one a step, in
the order of `txq`. -/
def Obligations.BytesReachTheWireOnlyWhileSending : Prop :=
  ∀ (s t : State) (e : Event) (rest : List Event), Invariants s → s.agenda = e :: rest →
    e.resets = false → step s = .next t → t.wireOut ≠ s.wireOut →
    s.fsm = .txSend ∧ s.txen = true ∧ ∃ b q, s.txq = b :: q ∧ t.wireOut = s.wireOut ++ [b]

/-- R32, R222, R255: a step appends at most one diagnostic record: DEBUG for a failure that will be
retried, WARN for one that ends the transaction with that error. -/
def Obligations.DiagnosticsFollowFailures : Prop :=
  ∀ (s t : State) (e : Event) (rest : List Event), s.agenda = e :: rest → e.resets = false →
    step s = .next t →
    t.diag = s.diag
    ∨ (∃ k, t.diag = s.diag ++ [⟨.debug, k, s.attempt⟩] ∧ s.attempt < s.cfg.attempts
        ∧ t.attempt = s.attempt + 1 ∧ t.fsm = .backoff)
    ∨ (∃ k, t.diag = s.diag ++ [⟨.warn, k, s.attempt⟩] ∧ s.cfg.attempts ≤ s.attempt
        ∧ t.fsm = .idle ∧ t.resValid = true ∧ t.resStatus = statusOf k)

/-- R45, R173, R176, R223, R312: the settle, guard and back-off delays are lower bounds. As long as
fewer TICKs have come than the timer held, and no reset, the engine stays where it is, whatever else
happens. -/
def Obligations.DelaysAreLowerBounds : Prop :=
  ∀ (n : Nat) (s t : State), s.fsm.timed = true →
    (s.agenda.take n).all (fun e => !e.resets) = true → ticksOf (s.agenda.take n) < s.timer →
    runSteps n s = .next t →
    t.fsm = s.fsm ∧ t.timer + ticksOf (s.agenda.take n) = s.timer

/-! ### The hardware's clock cycle (R44, R262) -/

/-- R44, R262 (a) to (e): one clock cycle without reset is the run of the atomic steps that its inputs
and `fsm` name, in the order RX_BYTE, WIRE_TX, ISSUE or one internal step, TICK; but for the arbitration
bit, which none of those reads (log 13; the reading of the order is log 14). -/
def Obligations.ClockCycleIsARunOfEvents : Prop :=
  ∀ (s t : State) (p : PortIn) (rest : List Event), s.agenda = .cycle p :: rest →
    p.rst = false → step s = .next t →
    ∃ u, runSteps (cycleEvents p s).length { s with agenda := cycleEvents p s ++ rest } = .next u
      ∧ withoutArbiter u = withoutArbiter t

/-- R262 (a): when a byte waits and the deadline has passed, the hardware consumes first; if that did
not end the attempt, the next cycle takes the timeout, whether or not more bytes wait. Cycles in
which nothing else comes in. -/
def Obligations.HardwareConsumesOneByteBeforeTheTimeout : Prop :=
  ∀ (s : State) (p : PortIn) (rest : List Event), s.agenda = .cycle p :: rest →
    p.rst = false → p.rxValid = false → p.txDone = false → p.tickUs = false →
    s.fsm = .listen → s.timer = 0 → s.rxfifo ≠ [] →
    (s.lateConsume = false → step s = rxConsume { s with agenda := rest, lateConsume := true })
    ∧ (s.lateConsume = true → step s = .next (attemptFailed .timeout { s with agenda := rest }))

/-! ### Derived times, ports, the remote cell -/

/-- R180, R181: the frame time is the ceiling of 11,000,000 / BAUD, the guard time its formula, with
the examples of both rules (the fields an example does not name are the example configuration's). -/
def Obligations.DerivedTimes : Prop :=
  (∀ c : Cfg, 1 ≤ c.baud →
    frameTimeUs c = (11000000 + c.baud - 1) / c.baud
    ∧ 11000000 ≤ frameTimeUs c * c.baud
    ∧ (∀ q, 11000000 ≤ q * c.baud → frameTimeUs c ≤ q)
    ∧ 1 ≤ frameTimeUs c ∧ (11000000 ≤ c.baud → frameTimeUs c = 1))
  ∧ (∀ c : Cfg, postTxGuardUs c
      = max c.guardFloorUs (frameTimeUs c * c.worstCaseFrameBytes + 2 * frameTimeUs c))
  ∧ frameTimeUs { defaultCfg with baud := 9600 } = 1146
  ∧ frameTimeUs { defaultCfg with baud := 19200 } = 573
  ∧ frameTimeUs { defaultCfg with baud := 38400 } = 287
  ∧ frameTimeUs { defaultCfg with baud := 57600 } = 191
  ∧ frameTimeUs { defaultCfg with baud := 115200 } = 96
  ∧ frameTimeUs { defaultCfg with baud := 1000000 } = 11
  ∧ frameTimeUs { defaultCfg with baud := 1200 } = 9167
  ∧ postTxGuardUs
      { defaultCfg with baud := 38400, worstCaseFrameBytes := 12, guardFloorUs := 2000 } = 4018
  ∧ postTxGuardUs
      { defaultCfg with baud := 38400, worstCaseFrameBytes := 27, guardFloorUs := 0 } = 8323
  ∧ postTxGuardUs
      { defaultCfg with baud := 115200, worstCaseFrameBytes := 12, guardFloorUs := 2000 } = 2000

/-- R23, R33, R36 to R39, R102: the output ports. A position of the result port below its count shows
the list's item there, one at or beyond it shows 0; then `tx_valid`/`tx_data`, the status codes, and the
pulses of the `diag` port with their codes (the widths of `diag_level` and `diag_kind` are the model's
choice, log 24). -/
def Obligations.OutputPortsShowTheState : Prop :=
  (∀ s : State,
    (cmdReady s = true ↔ s.fsm = .idle) ∧ cmdReady s = !busy s
    ∧ resNwords s = s.resWords.length ∧ resPreviewLen s = s.resPreview.length
    ∧ (∀ j w, s.resWords[j]? = some w → resWordAt s j = w)
    ∧ (∀ j, resNwords s ≤ j → resWordAt s j = 0)
    ∧ (∀ j b, s.resPreview[j]? = some b → resPreviewAt s j = b)
    ∧ (∀ j, resPreviewLen s ≤ j → resPreviewAt s j = 0)
    ∧ (txValid s = true ↔ s.fsm = .txSend ∧ s.txq ≠ [])
    ∧ (∀ b q, s.fsm = .txSend → s.txq = b :: q → txData s = some b)
    ∧ (resStatusCode s).toNat = match s.resStatus with
      | .ok => 0
      | .crcMismatch => 1
      | .timeout => 2
      | .invalidChannel => 3)
  ∧ (∀ (s t : State) (records : List DiagRecord), t.diag = s.diag ++ records →
    diagPulses s t = records)
  ∧ (∀ (n : Nat), n < 256 →
    diagPort ⟨.debug, .crcMismatch, n⟩ = (0, 1, BitVec.ofNat 8 n)
    ∧ diagPort ⟨.debug, .timeout, n⟩ = (0, 2, BitVec.ofNat 8 n)
    ∧ diagPort ⟨.warn, .crcMismatch, n⟩ = (1, 1, BitVec.ofNat 8 n)
    ∧ diagPort ⟨.warn, .timeout, n⟩ = (1, 2, BitVec.ofNat 8 n))

/-- R64: the masked write, bit by bit; a bit of `or_mask` that is 1 is 1 whatever `and_mask` says. -/
def Obligations.MaskedWriteBitByBit : Prop :=
  ∀ (current andMask orMask : Word) (i : Nat),
    (applyMask current andMask orMask).getLsbD i
      = ((current.getLsbD i && andMask.getLsbD i) || orMask.getLsbD i)

/-- R71, with R63 and R64: a WRITE asks for its value, a WMASK for the masked one; a masked write done
twice is the masked write done once, and either asked again asks for the same value: a retry is
harmless. -/
def Obligations.RepeatedCommandLeavesTheSameCell : Prop :=
  (∀ c a o : Word, applyMask (applyMask c a o) a o = applyMask c a o)
  ∧ (∀ (category index page : Byte) (value crc current : Word),
    remoteCell (.reqWrite category index page value crc) current = some value)
  ∧ (∀ (category index page : Byte) (andMask orMask crc current : Word),
    remoteCell (.reqWmask category index page andMask orMask crc) current
      = some ((current &&& andMask) ||| orMask))
  ∧ (∀ (i : Instr) (current next : Word), remoteCell i current = some next →
    remoteCell i next = some next)
end

