-- ==== Sys2Proof/Laws/Crc.lean ====
section
/-! SUPPORT. The checksum over a list, and the bytes of a word put together again. -/

namespace Sys2Proof.Machine

@[simp] theorem crc16_nil : crc16 [] = crcInit := rfl

@[simp] theorem crcInit_eq : crcInit = 0xFFFF := rfl

/-- The checksum of a sequence with bytes behind it goes on from the checksum of the sequence. -/
theorem crc16_append (s t : List Byte) : crc16 (s ++ t) = t.foldl crc16Update (crc16 s) :=
  List.foldl_append

@[simp] theorem mkWord_hi8_lo8 (w : Word) : mkWord (hi8 w) (lo8 w) = w := by
  apply BitVec.eq_of_getLsbD_eq
  intro i hi
  simp only [mkWord, hi8, lo8, BitVec.getLsbD_or, BitVec.getLsbD_shiftLeft, BitVec.getLsbD_setWidth,
    BitVec.getLsbD_ushiftRight]
  by_cases h : i < 8
  · simp [h, hi]
  · have : i - 8 < 8 := by omega
    have h2 : 8 + (i - 8) = i := by omega
    simp [h, hi, this, h2]
    omega

@[simp] theorem hi8_mkWord (h l : Byte) : hi8 (mkWord h l) = h := by
  apply BitVec.eq_of_getLsbD_eq
  intro i hi
  have h1 : ¬ 8 + i < 8 := by omega
  have h2 : 8 + i < 16 := by omega
  have h3 : i < 16 := by omega
  simp [mkWord, hi8, hi, h2, h3]

@[simp] theorem lo8_mkWord (h l : Byte) : lo8 (mkWord h l) = l := by
  apply BitVec.eq_of_getLsbD_eq
  intro i hi
  simp [mkWord, lo8, hi]

/-- The length of the words of a payload (R151). -/
theorem wordsOf_length : (p : List Byte) → (wordsOf p).length = p.length / 2
  | [] => by simp [wordsOf]
  | [_] => by simp [wordsOf]
  | _ :: _ :: rest => by
    have := wordsOf_length rest
    simp only [wordsOf, List.length_cons, this]
    omega

end Sys2Proof.Machine
end

