-- ==== Sys2Proof/Laws/State.lean ====
section
/-! SUPPORT. What each update of the state leaves in each field, true by computation. -/

namespace Sys2Proof.Machine

@[simp] theorem startAttempt_cfg (s : State) : (startAttempt s).cfg = s.cfg := rfl
@[simp] theorem startAttempt_fsm (s : State) : (startAttempt s).fsm = .preTx := rfl
@[simp] theorem startAttempt_cmd (s : State) : (startAttempt s).cmd = s.cmd := rfl
@[simp] theorem startAttempt_resValid (s : State) : (startAttempt s).resValid = s.resValid := rfl
@[simp] theorem startAttempt_resStatus (s : State) : (startAttempt s).resStatus = s.resStatus := rfl
@[simp] theorem startAttempt_resWords (s : State) : (startAttempt s).resWords = s.resWords := rfl
@[simp] theorem startAttempt_resPreview (s : State) : (startAttempt s).resPreview = s.resPreview := rfl
@[simp] theorem startAttempt_attempt (s : State) : (startAttempt s).attempt = s.attempt := rfl
@[simp] theorem startAttempt_timer (s : State) : (startAttempt s).timer = s.cfg.preTxSettleUs := rfl
@[simp] theorem startAttempt_txframe (s : State) : (startAttempt s).txframe = s.txframe := rfl
@[simp] theorem startAttempt_txq (s : State) : (startAttempt s).txq = s.txq := rfl
@[simp] theorem startAttempt_txen (s : State) : (startAttempt s).txen = true := rfl
@[simp] theorem startAttempt_flow (s : State) : (startAttempt s).flow = if s.cfg.hasFlow then true else s.flow := rfl
@[simp] theorem startAttempt_rxfifo (s : State) : (startAttempt s).rxfifo = if s.cfg.flushRxBeforeTx then [] else s.rxfifo := rfl
@[simp] theorem startAttempt_acc (s : State) : (startAttempt s).acc = s.acc := rfl
@[simp] theorem startAttempt_crc (s : State) : (startAttempt s).crc = s.crc := rfl
@[simp] theorem startAttempt_diag (s : State) : (startAttempt s).diag = s.diag := rfl
@[simp] theorem startAttempt_wireOut (s : State) : (startAttempt s).wireOut = s.wireOut := rfl
@[simp] theorem startAttempt_issued (s : State) : (startAttempt s).issued = s.issued := rfl
@[simp] theorem startAttempt_lateConsume (s : State) : (startAttempt s).lateConsume = s.lateConsume := rfl
@[simp] theorem startAttempt_port (s : State) : (startAttempt s).port = s.port := rfl
@[simp] theorem startAttempt_agenda (s : State) : (startAttempt s).agenda = s.agenda := rfl

@[simp] theorem latchCommand_cfg (m : Cmd) (s : State) : (latchCommand m s).cfg = s.cfg := rfl
@[simp] theorem latchCommand_fsm (m : Cmd) (s : State) : (latchCommand m s).fsm = s.fsm := rfl
@[simp] theorem latchCommand_cmd (m : Cmd) (s : State) : (latchCommand m s).cmd = m := rfl
@[simp] theorem latchCommand_resValid (m : Cmd) (s : State) : (latchCommand m s).resValid = false := rfl
@[simp] theorem latchCommand_resStatus (m : Cmd) (s : State) : (latchCommand m s).resStatus = s.resStatus := rfl
@[simp] theorem latchCommand_resWords (m : Cmd) (s : State) : (latchCommand m s).resWords = s.resWords := rfl
@[simp] theorem latchCommand_resPreview (m : Cmd) (s : State) : (latchCommand m s).resPreview = s.resPreview := rfl
@[simp] theorem latchCommand_attempt (m : Cmd) (s : State) : (latchCommand m s).attempt = 1 := rfl
@[simp] theorem latchCommand_timer (m : Cmd) (s : State) : (latchCommand m s).timer = s.timer := rfl
@[simp] theorem latchCommand_txframe (m : Cmd) (s : State) : (latchCommand m s).txframe = buildRequest s.cfg m := rfl
@[simp] theorem latchCommand_txq (m : Cmd) (s : State) : (latchCommand m s).txq = s.txq := rfl
@[simp] theorem latchCommand_txen (m : Cmd) (s : State) : (latchCommand m s).txen = s.txen := rfl
@[simp] theorem latchCommand_flow (m : Cmd) (s : State) : (latchCommand m s).flow = s.flow := rfl
@[simp] theorem latchCommand_rxfifo (m : Cmd) (s : State) : (latchCommand m s).rxfifo = s.rxfifo := rfl
@[simp] theorem latchCommand_acc (m : Cmd) (s : State) : (latchCommand m s).acc = s.acc := rfl
@[simp] theorem latchCommand_crc (m : Cmd) (s : State) : (latchCommand m s).crc = s.crc := rfl
@[simp] theorem latchCommand_diag (m : Cmd) (s : State) : (latchCommand m s).diag = s.diag := rfl
@[simp] theorem latchCommand_wireOut (m : Cmd) (s : State) : (latchCommand m s).wireOut = s.wireOut := rfl
@[simp] theorem latchCommand_issued (m : Cmd) (s : State) : (latchCommand m s).issued = true := rfl
@[simp] theorem latchCommand_lateConsume (m : Cmd) (s : State) : (latchCommand m s).lateConsume = s.lateConsume := rfl
@[simp] theorem latchCommand_port (m : Cmd) (s : State) : (latchCommand m s).port = s.port := rfl
@[simp] theorem latchCommand_agenda (m : Cmd) (s : State) : (latchCommand m s).agenda = s.agenda := rfl

@[simp] theorem completeOk_cfg (w : List Word) (s : State) : (completeOk w s).cfg = s.cfg := rfl
@[simp] theorem completeOk_fsm (w : List Word) (s : State) : (completeOk w s).fsm = .idle := rfl
@[simp] theorem completeOk_cmd (w : List Word) (s : State) : (completeOk w s).cmd = s.cmd := rfl
@[simp] theorem completeOk_resValid (w : List Word) (s : State) : (completeOk w s).resValid = true := rfl
@[simp] theorem completeOk_resStatus (w : List Word) (s : State) : (completeOk w s).resStatus = .ok := rfl
@[simp] theorem completeOk_resWords (w : List Word) (s : State) : (completeOk w s).resWords = if s.cmd.kind = .read then w else [] := rfl
@[simp] theorem completeOk_resPreview (w : List Word) (s : State) : (completeOk w s).resPreview = [] := rfl
@[simp] theorem completeOk_attempt (w : List Word) (s : State) : (completeOk w s).attempt = s.attempt := rfl
@[simp] theorem completeOk_timer (w : List Word) (s : State) : (completeOk w s).timer = s.timer := rfl
@[simp] theorem completeOk_txframe (w : List Word) (s : State) : (completeOk w s).txframe = s.txframe := rfl
@[simp] theorem completeOk_txq (w : List Word) (s : State) : (completeOk w s).txq = s.txq := rfl
@[simp] theorem completeOk_txen (w : List Word) (s : State) : (completeOk w s).txen = s.txen := rfl
@[simp] theorem completeOk_flow (w : List Word) (s : State) : (completeOk w s).flow = s.flow := rfl
@[simp] theorem completeOk_rxfifo (w : List Word) (s : State) : (completeOk w s).rxfifo = s.rxfifo := rfl
@[simp] theorem completeOk_acc (w : List Word) (s : State) : (completeOk w s).acc = s.acc := rfl
@[simp] theorem completeOk_crc (w : List Word) (s : State) : (completeOk w s).crc = s.crc := rfl
@[simp] theorem completeOk_diag (w : List Word) (s : State) : (completeOk w s).diag = s.diag := rfl
@[simp] theorem completeOk_wireOut (w : List Word) (s : State) : (completeOk w s).wireOut = s.wireOut := rfl
@[simp] theorem completeOk_issued (w : List Word) (s : State) : (completeOk w s).issued = s.issued := rfl
@[simp] theorem completeOk_lateConsume (w : List Word) (s : State) : (completeOk w s).lateConsume = s.lateConsume := rfl
@[simp] theorem completeOk_port (w : List Word) (s : State) : (completeOk w s).port = s.port := rfl
@[simp] theorem completeOk_agenda (w : List Word) (s : State) : (completeOk w s).agenda = s.agenda := rfl

@[simp] theorem retryAfter_cfg (e : ErrKind) (s : State) : (retryAfter e s).cfg = s.cfg := rfl
@[simp] theorem retryAfter_fsm (e : ErrKind) (s : State) : (retryAfter e s).fsm = .backoff := rfl
@[simp] theorem retryAfter_cmd (e : ErrKind) (s : State) : (retryAfter e s).cmd = s.cmd := rfl
@[simp] theorem retryAfter_resValid (e : ErrKind) (s : State) : (retryAfter e s).resValid = s.resValid := rfl
@[simp] theorem retryAfter_resStatus (e : ErrKind) (s : State) : (retryAfter e s).resStatus = s.resStatus := rfl
@[simp] theorem retryAfter_resWords (e : ErrKind) (s : State) : (retryAfter e s).resWords = s.resWords := rfl
@[simp] theorem retryAfter_resPreview (e : ErrKind) (s : State) : (retryAfter e s).resPreview = s.resPreview := rfl
@[simp] theorem retryAfter_attempt (e : ErrKind) (s : State) : (retryAfter e s).attempt = s.attempt + 1 := rfl
@[simp] theorem retryAfter_timer (e : ErrKind) (s : State) : (retryAfter e s).timer = s.cfg.retryBackoffUs := rfl
@[simp] theorem retryAfter_txframe (e : ErrKind) (s : State) : (retryAfter e s).txframe = s.txframe := rfl
@[simp] theorem retryAfter_txq (e : ErrKind) (s : State) : (retryAfter e s).txq = s.txq := rfl
@[simp] theorem retryAfter_txen (e : ErrKind) (s : State) : (retryAfter e s).txen = s.txen := rfl
@[simp] theorem retryAfter_flow (e : ErrKind) (s : State) : (retryAfter e s).flow = s.flow := rfl
@[simp] theorem retryAfter_rxfifo (e : ErrKind) (s : State) : (retryAfter e s).rxfifo = s.rxfifo := rfl
@[simp] theorem retryAfter_acc (e : ErrKind) (s : State) : (retryAfter e s).acc = s.acc := rfl
@[simp] theorem retryAfter_crc (e : ErrKind) (s : State) : (retryAfter e s).crc = s.crc := rfl
@[simp] theorem retryAfter_diag (e : ErrKind) (s : State) : (retryAfter e s).diag = s.diag ++ [⟨.debug, e, s.attempt⟩] := rfl
@[simp] theorem retryAfter_wireOut (e : ErrKind) (s : State) : (retryAfter e s).wireOut = s.wireOut := rfl
@[simp] theorem retryAfter_issued (e : ErrKind) (s : State) : (retryAfter e s).issued = s.issued := rfl
@[simp] theorem retryAfter_lateConsume (e : ErrKind) (s : State) : (retryAfter e s).lateConsume = s.lateConsume := rfl
@[simp] theorem retryAfter_port (e : ErrKind) (s : State) : (retryAfter e s).port = s.port := rfl
@[simp] theorem retryAfter_agenda (e : ErrKind) (s : State) : (retryAfter e s).agenda = s.agenda := rfl

@[simp] theorem finalFailure_cfg (e : ErrKind) (s : State) : (finalFailure e s).cfg = s.cfg := rfl
@[simp] theorem finalFailure_fsm (e : ErrKind) (s : State) : (finalFailure e s).fsm = .idle := rfl
@[simp] theorem finalFailure_cmd (e : ErrKind) (s : State) : (finalFailure e s).cmd = s.cmd := rfl
@[simp] theorem finalFailure_resValid (e : ErrKind) (s : State) : (finalFailure e s).resValid = true := rfl
@[simp] theorem finalFailure_resStatus (e : ErrKind) (s : State) : (finalFailure e s).resStatus = statusOf e := rfl
@[simp] theorem finalFailure_resWords (e : ErrKind) (s : State) : (finalFailure e s).resWords = [] := rfl
@[simp] theorem finalFailure_resPreview (e : ErrKind) (s : State) : (finalFailure e s).resPreview = s.acc.take s.cfg.previewBytes := rfl
@[simp] theorem finalFailure_attempt (e : ErrKind) (s : State) : (finalFailure e s).attempt = s.attempt := rfl
@[simp] theorem finalFailure_timer (e : ErrKind) (s : State) : (finalFailure e s).timer = s.timer := rfl
@[simp] theorem finalFailure_txframe (e : ErrKind) (s : State) : (finalFailure e s).txframe = s.txframe := rfl
@[simp] theorem finalFailure_txq (e : ErrKind) (s : State) : (finalFailure e s).txq = s.txq := rfl
@[simp] theorem finalFailure_txen (e : ErrKind) (s : State) : (finalFailure e s).txen = s.txen := rfl
@[simp] theorem finalFailure_flow (e : ErrKind) (s : State) : (finalFailure e s).flow = s.flow := rfl
@[simp] theorem finalFailure_rxfifo (e : ErrKind) (s : State) : (finalFailure e s).rxfifo = s.rxfifo := rfl
@[simp] theorem finalFailure_acc (e : ErrKind) (s : State) : (finalFailure e s).acc = s.acc := rfl
@[simp] theorem finalFailure_crc (e : ErrKind) (s : State) : (finalFailure e s).crc = s.crc := rfl
@[simp] theorem finalFailure_diag (e : ErrKind) (s : State) : (finalFailure e s).diag = s.diag ++ [⟨.warn, e, s.attempt⟩] := rfl
@[simp] theorem finalFailure_wireOut (e : ErrKind) (s : State) : (finalFailure e s).wireOut = s.wireOut := rfl
@[simp] theorem finalFailure_issued (e : ErrKind) (s : State) : (finalFailure e s).issued = s.issued := rfl
@[simp] theorem finalFailure_lateConsume (e : ErrKind) (s : State) : (finalFailure e s).lateConsume = s.lateConsume := rfl
@[simp] theorem finalFailure_port (e : ErrKind) (s : State) : (finalFailure e s).port = s.port := rfl
@[simp] theorem finalFailure_agenda (e : ErrKind) (s : State) : (finalFailure e s).agenda = s.agenda := rfl

@[simp] theorem tick_cfg (s : State) : (tick s).cfg = s.cfg := rfl
@[simp] theorem tick_fsm (s : State) : (tick s).fsm = s.fsm := rfl
@[simp] theorem tick_cmd (s : State) : (tick s).cmd = s.cmd := rfl
@[simp] theorem tick_resValid (s : State) : (tick s).resValid = s.resValid := rfl
@[simp] theorem tick_resStatus (s : State) : (tick s).resStatus = s.resStatus := rfl
@[simp] theorem tick_resWords (s : State) : (tick s).resWords = s.resWords := rfl
@[simp] theorem tick_resPreview (s : State) : (tick s).resPreview = s.resPreview := rfl
@[simp] theorem tick_attempt (s : State) : (tick s).attempt = s.attempt := rfl
@[simp] theorem tick_timer (s : State) : (tick s).timer = s.timer - 1 := rfl
@[simp] theorem tick_txframe (s : State) : (tick s).txframe = s.txframe := rfl
@[simp] theorem tick_txq (s : State) : (tick s).txq = s.txq := rfl
@[simp] theorem tick_txen (s : State) : (tick s).txen = s.txen := rfl
@[simp] theorem tick_flow (s : State) : (tick s).flow = s.flow := rfl
@[simp] theorem tick_rxfifo (s : State) : (tick s).rxfifo = s.rxfifo := rfl
@[simp] theorem tick_acc (s : State) : (tick s).acc = s.acc := rfl
@[simp] theorem tick_crc (s : State) : (tick s).crc = s.crc := rfl
@[simp] theorem tick_diag (s : State) : (tick s).diag = s.diag := rfl
@[simp] theorem tick_wireOut (s : State) : (tick s).wireOut = s.wireOut := rfl
@[simp] theorem tick_issued (s : State) : (tick s).issued = s.issued := rfl
@[simp] theorem tick_lateConsume (s : State) : (tick s).lateConsume = s.lateConsume := rfl
@[simp] theorem tick_port (s : State) : (tick s).port = s.port := rfl
@[simp] theorem tick_agenda (s : State) : (tick s).agenda = s.agenda := rfl

@[simp] theorem rxByte_cfg (b : Byte) (s : State) : (rxByte b s).cfg = s.cfg := rfl
@[simp] theorem rxByte_fsm (b : Byte) (s : State) : (rxByte b s).fsm = s.fsm := rfl
@[simp] theorem rxByte_cmd (b : Byte) (s : State) : (rxByte b s).cmd = s.cmd := rfl
@[simp] theorem rxByte_resValid (b : Byte) (s : State) : (rxByte b s).resValid = s.resValid := rfl
@[simp] theorem rxByte_resStatus (b : Byte) (s : State) : (rxByte b s).resStatus = s.resStatus := rfl
@[simp] theorem rxByte_resWords (b : Byte) (s : State) : (rxByte b s).resWords = s.resWords := rfl
@[simp] theorem rxByte_resPreview (b : Byte) (s : State) : (rxByte b s).resPreview = s.resPreview := rfl
@[simp] theorem rxByte_attempt (b : Byte) (s : State) : (rxByte b s).attempt = s.attempt := rfl
@[simp] theorem rxByte_timer (b : Byte) (s : State) : (rxByte b s).timer = s.timer := rfl
@[simp] theorem rxByte_txframe (b : Byte) (s : State) : (rxByte b s).txframe = s.txframe := rfl
@[simp] theorem rxByte_txq (b : Byte) (s : State) : (rxByte b s).txq = s.txq := rfl
@[simp] theorem rxByte_txen (b : Byte) (s : State) : (rxByte b s).txen = s.txen := rfl
@[simp] theorem rxByte_flow (b : Byte) (s : State) : (rxByte b s).flow = s.flow := rfl
@[simp] theorem rxByte_rxfifo (b : Byte) (s : State) : (rxByte b s).rxfifo = s.rxfifo ++ [b] := rfl
@[simp] theorem rxByte_acc (b : Byte) (s : State) : (rxByte b s).acc = s.acc := rfl
@[simp] theorem rxByte_crc (b : Byte) (s : State) : (rxByte b s).crc = s.crc := rfl
@[simp] theorem rxByte_diag (b : Byte) (s : State) : (rxByte b s).diag = s.diag := rfl
@[simp] theorem rxByte_wireOut (b : Byte) (s : State) : (rxByte b s).wireOut = s.wireOut := rfl
@[simp] theorem rxByte_issued (b : Byte) (s : State) : (rxByte b s).issued = s.issued := rfl
@[simp] theorem rxByte_lateConsume (b : Byte) (s : State) : (rxByte b s).lateConsume = s.lateConsume := rfl
@[simp] theorem rxByte_port (b : Byte) (s : State) : (rxByte b s).port = s.port := rfl
@[simp] theorem rxByte_agenda (b : Byte) (s : State) : (rxByte b s).agenda = s.agenda := rfl

@[simp] theorem takeByte_cfg (b : Byte) (rest : List Byte) (s : State) : (takeByte b rest s).cfg = s.cfg := rfl
@[simp] theorem takeByte_fsm (b : Byte) (rest : List Byte) (s : State) : (takeByte b rest s).fsm = s.fsm := rfl
@[simp] theorem takeByte_cmd (b : Byte) (rest : List Byte) (s : State) : (takeByte b rest s).cmd = s.cmd := rfl
@[simp] theorem takeByte_resValid (b : Byte) (rest : List Byte) (s : State) : (takeByte b rest s).resValid = s.resValid := rfl
@[simp] theorem takeByte_resStatus (b : Byte) (rest : List Byte) (s : State) : (takeByte b rest s).resStatus = s.resStatus := rfl
@[simp] theorem takeByte_resWords (b : Byte) (rest : List Byte) (s : State) : (takeByte b rest s).resWords = s.resWords := rfl
@[simp] theorem takeByte_resPreview (b : Byte) (rest : List Byte) (s : State) : (takeByte b rest s).resPreview = s.resPreview := rfl
@[simp] theorem takeByte_attempt (b : Byte) (rest : List Byte) (s : State) : (takeByte b rest s).attempt = s.attempt := rfl
@[simp] theorem takeByte_timer (b : Byte) (rest : List Byte) (s : State) : (takeByte b rest s).timer = s.timer := rfl
@[simp] theorem takeByte_txframe (b : Byte) (rest : List Byte) (s : State) : (takeByte b rest s).txframe = s.txframe := rfl
@[simp] theorem takeByte_txq (b : Byte) (rest : List Byte) (s : State) : (takeByte b rest s).txq = s.txq := rfl
@[simp] theorem takeByte_txen (b : Byte) (rest : List Byte) (s : State) : (takeByte b rest s).txen = s.txen := rfl
@[simp] theorem takeByte_flow (b : Byte) (rest : List Byte) (s : State) : (takeByte b rest s).flow = s.flow := rfl
@[simp] theorem takeByte_rxfifo (b : Byte) (rest : List Byte) (s : State) : (takeByte b rest s).rxfifo = rest := rfl
@[simp] theorem takeByte_acc (b : Byte) (rest : List Byte) (s : State) : (takeByte b rest s).acc = s.acc ++ [b] := rfl
@[simp] theorem takeByte_crc (b : Byte) (rest : List Byte) (s : State) : (takeByte b rest s).crc = crc16Update s.crc b := rfl
@[simp] theorem takeByte_diag (b : Byte) (rest : List Byte) (s : State) : (takeByte b rest s).diag = s.diag := rfl
@[simp] theorem takeByte_wireOut (b : Byte) (rest : List Byte) (s : State) : (takeByte b rest s).wireOut = s.wireOut := rfl
@[simp] theorem takeByte_issued (b : Byte) (rest : List Byte) (s : State) : (takeByte b rest s).issued = s.issued := rfl
@[simp] theorem takeByte_lateConsume (b : Byte) (rest : List Byte) (s : State) : (takeByte b rest s).lateConsume = s.lateConsume := rfl
@[simp] theorem takeByte_port (b : Byte) (rest : List Byte) (s : State) : (takeByte b rest s).port = s.port := rfl
@[simp] theorem takeByte_agenda (b : Byte) (rest : List Byte) (s : State) : (takeByte b rest s).agenda = s.agenda := rfl

@[simp] theorem applyReset_cfg (s : State) : (applyReset s).cfg = s.cfg := rfl
@[simp] theorem applyReset_fsm (s : State) : (applyReset s).fsm = .idle := rfl
@[simp] theorem applyReset_cmd (s : State) : (applyReset s).cmd = initialCmd := rfl
@[simp] theorem applyReset_resValid (s : State) : (applyReset s).resValid = false := rfl
@[simp] theorem applyReset_resStatus (s : State) : (applyReset s).resStatus = .ok := rfl
@[simp] theorem applyReset_resWords (s : State) : (applyReset s).resWords = [] := rfl
@[simp] theorem applyReset_resPreview (s : State) : (applyReset s).resPreview = [] := rfl
@[simp] theorem applyReset_attempt (s : State) : (applyReset s).attempt = 1 := rfl
@[simp] theorem applyReset_timer (s : State) : (applyReset s).timer = 0 := rfl
@[simp] theorem applyReset_txframe (s : State) : (applyReset s).txframe = [] := rfl
@[simp] theorem applyReset_txq (s : State) : (applyReset s).txq = [] := rfl
@[simp] theorem applyReset_txen (s : State) : (applyReset s).txen = false := rfl
@[simp] theorem applyReset_flow (s : State) : (applyReset s).flow = false := rfl
@[simp] theorem applyReset_rxfifo (s : State) : (applyReset s).rxfifo = [] := rfl
@[simp] theorem applyReset_acc (s : State) : (applyReset s).acc = [] := rfl
@[simp] theorem applyReset_crc (s : State) : (applyReset s).crc = 0xFFFF := rfl
@[simp] theorem applyReset_diag (s : State) : (applyReset s).diag = [] := rfl
@[simp] theorem applyReset_wireOut (s : State) : (applyReset s).wireOut = [] := rfl
@[simp] theorem applyReset_issued (s : State) : (applyReset s).issued = false := rfl
@[simp] theorem applyReset_lateConsume (s : State) : (applyReset s).lateConsume = false := rfl
@[simp] theorem applyReset_port (s : State) : (applyReset s).port = s.port := rfl
@[simp] theorem applyReset_agenda (s : State) : (applyReset s).agenda = s.agenda := rfl

end Sys2Proof.Machine
end

