-- ==== Sys2Proof/Laws/Ops.lean ====
section
/-! SUPPORT. What each shared operation can do, said once. -/

namespace Sys2Proof.Machine

/-! ### The steps with an enabling condition -/

theorem issueCommand_idle {s : State} (m : Cmd) (h : s.fsm = .idle) :
    issueCommand m s = startAttempt (latchCommand m s) := if_pos h

theorem issueCommand_busy {s : State} (m : Cmd) (h : s.fsm ≠ .idle) : issueCommand m s = s :=
  if_neg h

theorem issueCommand_cases (m : Cmd) (s : State) :
    (s.fsm = .idle ∧ issueCommand m s = startAttempt (latchCommand m s))
      ∨ (s.fsm ≠ .idle ∧ issueCommand m s = s) := by
  by_cases h : s.fsm = .idle
  · exact .inl ⟨h, issueCommand_idle m h⟩
  · exact .inr ⟨h, issueCommand_busy m h⟩

theorem wireTx_cases (s : State) :
    wireTx s = s ∨ ∃ b rest, s.fsm = .txSend ∧ s.txq = b :: rest
      ∧ wireTx s = { s with wireOut := s.wireOut ++ [b], txq := rest } := by
  unfold wireTx
  split
  · rename_i hf
    split
    · exact .inl rfl
    · rename_i b rest hq
      exact .inr ⟨b, rest, hf, hq, rfl⟩
  · exact .inl rfl

/-- The wire inputs of a clock cycle queue the byte that arrives, if one does, and may move one byte of
`txq` to the wire. -/
theorem wireInputs_cases (p : PortIn) (s : State) :
    ∃ added, added = (if p.rxValid then [p.rxData] else [])
      ∧ (wireInputs p s = { s with rxfifo := s.rxfifo ++ added }
        ∨ ∃ b rest, s.fsm = .txSend ∧ s.txq = b :: rest ∧ p.txDone = true
          ∧ wireInputs p s
            = { s with rxfifo := s.rxfifo ++ added, wireOut := s.wireOut ++ [b], txq := rest }) := by
  refine ⟨_, rfl, ?_⟩
  have received : (if p.rxValid = true then rxByte p.rxData s else s)
      = { s with rxfifo := s.rxfifo ++ (if p.rxValid then [p.rxData] else []) } := by
    split <;> simp [rxByte]
  unfold wireInputs
  simp only [received]
  split
  · rename_i hd
    rcases wireTx_cases { s with rxfifo := s.rxfifo ++ (if p.rxValid then [p.rxData] else []) }
      with h | ⟨b, rest, hf, hq, h⟩
    · exact .inl h
    · exact .inr ⟨b, rest, hf, hq, hd, h⟩
  · exact .inl rfl

theorem settleDone_cases (s : State) :
    settleDone s = s ∨ s.fsm = .preTx ∧ s.timer = 0
      ∧ settleDone s = { s with txq := s.txframe, fsm := .txSend } := by
  unfold settleDone
  split
  · rename_i h
    exact .inr ⟨h.1, h.2, rfl⟩
  · exact .inl rfl

theorem txDone_cases (s : State) :
    txDone s = s ∨ s.fsm = .txSend ∧ s.txq = []
      ∧ txDone s = { s with
          txen := false
          flow := if s.cfg.hasFlow then false else s.flow
          timer := postTxGuardUs s.cfg
          fsm := .postTx } := by
  unfold txDone
  split
  · rename_i h
    exact .inr ⟨h.1, h.2, rfl⟩
  · exact .inl rfl

theorem guardDone_cases (s : State) :
    guardDone s = s ∨ s.fsm = .postTx ∧ s.timer = 0
      ∧ guardDone s = { s with
          acc := []
          crc := crcInit
          timer := s.cfg.rxTimeoutUs
          fsm := .listen
          lateConsume := false } := by
  unfold guardDone
  split
  · rename_i h
    exact .inr ⟨h.1, h.2, rfl⟩
  · exact .inl rfl

theorem backoffDone_cases (s : State) :
    backoffDone s = s ∨ s.fsm = .backoff ∧ s.timer = 0 ∧ backoffDone s = startAttempt s := by
  unfold backoffDone
  split
  · rename_i h
    exact .inr ⟨h.1, h.2, rfl⟩
  · exact .inl rfl

theorem rxTimeout_cases (s : State) :
    rxTimeout s = s ∨ s.fsm = .listen ∧ s.timer = 0
      ∧ rxTimeout s = attemptFailed .timeout s := by
  unfold rxTimeout
  split
  · rename_i h
    exact .inr ⟨h.1, h.2, rfl⟩
  · exact .inl rfl

/-! ### Failing and succeeding -/

theorem attemptFailed_retry {s : State} (e : ErrKind) (h : s.attempt < s.cfg.attempts) :
    attemptFailed e s = retryAfter e s := if_pos h

theorem attemptFailed_final {s : State} (e : ErrKind) (h : s.cfg.attempts ≤ s.attempt) :
    attemptFailed e s = finalFailure e s := if_neg (Nat.not_lt.mpr h)

theorem attemptFailed_cases (e : ErrKind) (s : State) :
    (s.attempt < s.cfg.attempts ∧ attemptFailed e s = retryAfter e s)
      ∨ (s.cfg.attempts ≤ s.attempt ∧ attemptFailed e s = finalFailure e s) := by
  rcases Nat.lt_or_ge s.attempt s.cfg.attempts with h | h
  · exact .inl ⟨h, attemptFailed_retry e h⟩
  · exact .inr ⟨h, attemptFailed_final e h⟩

theorem receiveFrame_cases (k : CmdKind) (f : List Byte) (w : List Word) (s : State) :
    receiveFrame k f w s = s
      ∨ s.fsm = .listen ∧ s.cmd.kind = k
        ∧ ((crcValid f = true ∧ receiveFrame k f w s = completeOk w s)
          ∨ (crcValid f = false ∧ receiveFrame k f w s = attemptFailed .crcMismatch s)) := by
  unfold receiveFrame
  split
  · rename_i h
    refine .inr ⟨h.1, h.2, ?_⟩
    cases hv : crcValid f <;> simp
  · exact .inl rfl

/-! ### Instructions and the events that run them -/

/-- A response's meaning is one delivery of its frame. -/
theorem exec_response {i : Instr} (h : i.direction = .received) (s : State) :
    exec i s = .next (receiveFrame i.kind (encode s.cfg i) (wordsOf (payloadOf i)) s) := by
  cases i <;> first | rfl | cases h

/-- A request's meaning is one ISSUE of a command of its kind. -/
theorem exec_request {i : Instr} (h : i.direction = .sent) (s : State) :
    ∃ m, m.kind = i.kind ∧ exec i s = .next (issueCommand m s) := by
  cases i <;> first | exact ⟨_, rfl, rfl⟩ | cases h

theorem responseOf_direction (k : CmdKind) (p : List Byte) (c : Word) :
    (responseOf k p c).direction = .received := by cases k <;> rfl

theorem responseOf_kind (k : CmdKind) (p : List Byte) (c : Word) : (responseOf k p c).kind = k := by
  cases k <;> rfl

theorem responseOf_payload (k : CmdKind) (p : List Byte) (c : Word) :
    payloadOf (responseOf k p c) = p := by cases k <;> rfl

/-- What a decoded response is: the one whose length, address and function match. -/
theorem decodeResponse_ok {c : Cfg} {a : List Byte} {i : Instr}
    (h : decodeResponse c a = .ok i) :
    ∃ func n rest k, a = c.devAddr :: func :: n :: rest ∧ rest.length = n.toNat + 2
      ∧ kindOfFunction c func = some k
      ∧ i = responseOf k (rest.take n.toNat) (crcOfBytes (rest.drop n.toNat)) := by
  unfold decodeResponse at h
  split at h
  · rename_i addr func n rest
    split at h
    · cases h
    split at h
    · cases h
    split at h
    · cases h
    rename_i hlt hgt haddr
    split at h
    · cases h
    rename_i k hk
    have haddr : addr = c.devAddr := by simpa using haddr
    refine ⟨func, n, rest, k, by rw [haddr], by omega, hk, ?_⟩
    cases h
    rfl
  · cases h

theorem decodeResponse_direction {c : Cfg} {a : List Byte} {i : Instr}
    (h : decodeResponse c a = .ok i) : i.direction = .received := by
  obtain ⟨_, _, _, k, -, -, -, rfl⟩ := decodeResponse_ok h
  exact responseOf_direction k _ _

/-- The codes of `cmd_kind` read back (R36, R101). -/
@[simp] theorem kindOfCode_kindCode (k : CmdKind) : kindOfCode (kindCode k) = some k := by
  cases k <;> rfl

/-- With `cmd_kind = 0` there is no instruction on the command port (R104). -/
theorem portInstr_none {p : CmdPort} (c : Cfg) (h : p.kind = 0) : portInstr c p = none := by
  simp [portInstr, kindOfCode, h]

/-- ISSUE through the port either latches a command in IDLE or changes the port inputs only. -/
theorem issuePort_cases (p : CmdPort) (s : State) :
    ∃ t, issuePort p s = .next t
      ∧ (t = { s with port := p }
        ∨ s.fsm = .idle ∧ ∃ m, t = startAttempt (latchCommand m { s with port := p })) := by
  unfold issuePort
  split
  · exact ⟨_, rfl, .inl rfl⟩
  · rename_i i hi
    have hd : i.direction = .sent := by
      unfold portInstr at hi
      split at hi <;> cases hi <;> rfl
    obtain ⟨m, -, hm⟩ := exec_request hd { s with port := p }
    refine ⟨_, hm, ?_⟩
    rcases issueCommand_cases m { s with port := p } with ⟨hf, he⟩ | ⟨-, he⟩
    · exact .inr ⟨hf, m, he⟩
    · exact .inl he

/-- RX_CONSUME takes at most one byte; the frame it completes, if any, then succeeds or fails. -/
theorem rxConsume_cases (s : State) :
    rxConsume s = .next s
      ∨ ∃ b rest t, s.fsm = .listen ∧ s.rxfifo = b :: rest ∧ rxConsume s = .next t
        ∧ (t = takeByte b rest s
          ∨ (∃ i, decodeResponse s.cfg (s.acc ++ [b]) = .ok i ∧ s.cmd.kind = i.kind
              ∧ crcValid (encode s.cfg i) = true
              ∧ t = completeOk (wordsOf (payloadOf i)) (takeByte b rest s))
          ∨ (∃ i, decodeResponse s.cfg (s.acc ++ [b]) = .ok i ∧ s.cmd.kind = i.kind
              ∧ crcValid (encode s.cfg i) = false
              ∧ t = attemptFailed .crcMismatch (takeByte b rest s))) := by
  unfold rxConsume
  split
  · rename_i hf
    split
    · exact .inl rfl
    · rename_i b rest hq
      refine .inr ⟨b, rest, ?_⟩
      simp only [decode]
      split
      · rename_i i hi
        refine ⟨_, hf, hq, exec_response (decodeResponse_direction hi) _, ?_⟩
        rcases receiveFrame_cases i.kind (encode s.cfg i) (wordsOf (payloadOf i))
          (takeByte b rest s) with h | ⟨-, hk, ⟨hv, h⟩ | ⟨hv, h⟩⟩
        · exact .inl h
        · exact .inr (.inl ⟨i, hi, hk, hv, h⟩)
        · exact .inr (.inr ⟨i, hi, hk, hv, h⟩)
      · exact ⟨_, hf, hq, rfl, .inl rfl⟩
  · exact .inl rfl

theorem presentConfig_next {c : Cfg} {s t : State} (h : presentConfig c s = .next t) :
    cfgLegal c = true ∧ s.issued = false ∧ t = { s with cfg := c } := by
  unfold presentConfig at h
  split at h
  · cases h
  · split at h
    · cases h
    · rename_i h1 h2
      cases h
      exact ⟨by simpa using h1, by simpa using h2, rfl⟩

/-- A first outcome that is a next state hands it on. -/
@[simp] theorem andThen_next (s : State) (f : State → Host.Outcome State Fault Refusal) :
    andThen (.next s) f = f s := rfl

/-! ### The step -/

theorem step_agenda_nil {s : State} (h : s.agenda = []) : step s = .next s := by
  unfold step; rw [h]

theorem step_agenda_cons {s : State} {e : Event} {rest : List Event} (h : s.agenda = e :: rest) :
    step s = perform e { s with agenda := rest } := by
  unfold step; rw [h]

/-- A clock cycle without reset, by what `fsm` was at its start. -/
theorem clockCycle_idle {p : PortIn} {s : State} (hr : p.rst = false) (hf : s.fsm = .idle) :
    clockCycle p s = andThen
      (if p.cmdValid then issuePort p.cmd (wireInputs p s) else .next (wireInputs p s))
      (fun t => .next (if p.tickUs then tick t else t)) := by
  simp [clockCycle, hr, hf]

theorem clockCycle_busy {p : PortIn} {s : State} (hr : p.rst = false) (hf : s.fsm ≠ .idle) :
    clockCycle p s = andThen (internalStep (wireInputs p s))
      (fun t => .next (if p.tickUs then tick t else t)) := by
  simp [clockCycle, hr, hf]

end Sys2Proof.Machine
end

