-- ==== Sys2Proof/Laws/PerInstr.lean ====
section
/-! SUPPORT. Facts about every frame of the table, one lemma per constructor. -/

/-- The length of a frame's encoding (R90): 8, 9 or 10, 11 or 12 bytes for a request, payload plus 5
for a response. -/
def Sys2Proof.Laws.EncodeLength.Statement (i : Sys2Proof.Instr) : Prop :=
  ∀ c : Sys2Proof.Cfg, (Sys2Proof.encode c i).length =
    match i.direction, i.kind with
    | .sent, .read => 8
    | .sent, .write => if c.writeCountByte then 10 else 9
    | .sent, .wmask => if c.writeCountByte then 12 else 11
    | .received, _ => (Sys2Proof.Machine.payloadOf i).length + 5

/-- The first two bytes of a frame's encoding (R91, R96, R99). -/
def Sys2Proof.Laws.EncodeHeader.Statement (i : Sys2Proof.Instr) : Prop :=
  ∀ c : Sys2Proof.Cfg,
    (Sys2Proof.encode c i).take 2 = [c.devAddr, Sys2Proof.Machine.fc c i.kind]

namespace Sys2Proof.Laws

open Sys2Proof.Machine

theorem countByte_length (c : Cfg) : (countByte c).length = if c.writeCountByte then 1 else 0 := by
  unfold countByte
  split <;> rfl

theorem EncodeLength.reqRead (category index page count : Byte) (crc : Word) :
    EncodeLength.Statement (.reqRead category index page count crc) := fun _ => rfl

theorem EncodeLength.reqWrite (category index page : Byte) (value crc : Word) :
    EncodeLength.Statement (.reqWrite category index page value crc) := by
  intro c
  simp only [encode, bytesBeforeCrc, requestHeader, writeBody, wordBytes, crcBytes,
    List.length_append, List.length_cons, List.length_nil, countByte_length, Instr.direction,
    Instr.kind]
  split <;> rfl

theorem EncodeLength.reqWmask (category index page : Byte) (andMask orMask crc : Word) :
    EncodeLength.Statement (.reqWmask category index page andMask orMask crc) := by
  intro c
  simp only [encode, bytesBeforeCrc, requestHeader, wmaskBody, wordBytes, crcBytes,
    List.length_append, List.length_cons, List.length_nil, countByte_length, Instr.direction,
    Instr.kind]
  split <;> rfl

theorem encode_response_length (c : Cfg) (k : CmdKind) (p : List Byte) (crc : Word) :
    (responseBytes c k p ++ crcBytes crc).length = p.length + 5 := by
  simp [responseBytes, crcBytes]

theorem EncodeLength.rspRead (payload : List Byte) (crc : Word) :
    EncodeLength.Statement (.rspRead payload crc) := fun c => encode_response_length c .read payload crc

theorem EncodeLength.rspWrite (payload : List Byte) (crc : Word) :
    EncodeLength.Statement (.rspWrite payload crc) := fun c => encode_response_length c .write payload crc

theorem EncodeLength.rspWmask (payload : List Byte) (crc : Word) :
    EncodeLength.Statement (.rspWmask payload crc) := fun c => encode_response_length c .wmask payload crc

theorem EncodeHeader.reqRead (category index page count : Byte) (crc : Word) :
    EncodeHeader.Statement (.reqRead category index page count crc) := fun _ => rfl

theorem EncodeHeader.reqWrite (category index page : Byte) (value crc : Word) :
    EncodeHeader.Statement (.reqWrite category index page value crc) := fun _ => rfl

theorem EncodeHeader.reqWmask (category index page : Byte) (andMask orMask crc : Word) :
    EncodeHeader.Statement (.reqWmask category index page andMask orMask crc) := fun _ => rfl

theorem EncodeHeader.rspRead (payload : List Byte) (crc : Word) :
    EncodeHeader.Statement (.rspRead payload crc) := fun _ => rfl

theorem EncodeHeader.rspWrite (payload : List Byte) (crc : Word) :
    EncodeHeader.Statement (.rspWrite payload crc) := fun _ => rfl

theorem EncodeHeader.rspWmask (payload : List Byte) (crc : Word) :
    EncodeHeader.Statement (.rspWmask payload crc) := fun _ => rfl

end Sys2Proof.Laws
end

