-- ==== Sys2Proof/Laws/Run.lean ====
section
/-! SUPPORT. Runs of the machine, one step at a time. -/

namespace Sys2Proof.Machine

@[simp] theorem runSteps_zero (s : State) : runSteps 0 s = .next s := rfl

/-- The run of Host/Core.lean, unfolded once. -/
theorem core_run_succ (M : Host.Core) (n : Nat) (s : M.State) :
    M.run (n + 1) s =
      match M.step s with
      | .next u => M.run n u
      | .fault r => .fault r
      | .refused r => .refused r := rfl

theorem runSteps_succ (n : Nat) (s : State) :
    runSteps (n + 1) s = andThen (step s) (runSteps n) := by
  have e := core_run_succ Sys2Proof.core n s
  cases h : step s with
  | next u =>
    have h' : Sys2Proof.core.step s = .next u := h
    rw [h'] at e
    exact e
  | fault r => cases r
  | refused r =>
    have h' : Sys2Proof.core.step s = .refused r := h
    rw [h'] at e
    exact e

/-- A run whose first step answers a next state goes on from it. -/
theorem runSteps_of_next {n : Nat} {s u : State} (h : step s = .next u) :
    runSteps (n + 1) s = runSteps n u := by
  rw [runSteps_succ, h]; rfl

/-- A run that answers a next state took a first step that did. -/
theorem next_of_runSteps {n : Nat} {s t : State} (h : runSteps (n + 1) s = .next t) :
    ∃ u, step s = .next u ∧ runSteps n u = .next t := by
  rw [runSteps_succ] at h
  cases hs : step s with
  | next u => rw [hs] at h; exact ⟨u, rfl, h⟩
  | fault r => cases r
  | refused r => rw [hs] at h; cases h

/-- The step that falls into a clock cycle beside the wire inputs and TICK is at most one, an atomic
one. -/
theorem mainEvent_cases (p : PortIn) (s : State) :
    mainEvent p s = [] ∨ ∃ e, mainEvent p s = [e] ∧ e.atomic = true := by
  unfold mainEvent
  cases s.fsm <;> simp only <;> (try split) <;>
    first | exact .inl rfl | exact .inr ⟨_, rfl, rfl⟩

/-- The events of a clock cycle are atomic steps of R202, at most four. -/
theorem cycleEvents_atomic (p : PortIn) (s : State) :
    (cycleEvents p s).all Event.atomic = true ∧ (cycleEvents p s).length ≤ 4 := by
  unfold cycleEvents
  rcases mainEvent_cases p s with h | ⟨e, h, he⟩ <;> rw [h] <;>
    cases p.rxValid <;> cases p.txDone <;> cases p.tickUs <;> simp_all [Event.atomic]

end Sys2Proof.Machine
end

