-- ==== Sys2Proof/Tests/Slice0.lean ====
section
/-! SUPPORT. Tests on words and steps taken from 95_test_vectors.md, the refusals of the
well-formedness checks, and, for every statement of Certificates/Slice0/Obligations.lean that has
hypotheses, a concrete input that meets them (`test_meets_<statement>`). -/

namespace Sys2Proof.Tests

open Sys2Proof.Machine

/-- The example configuration with the count byte of R94. -/
def withCountByte : Cfg := { defaultCfg with writeCountByte := true }

/-- The state an outcome goes on to. -/
def after (o : Host.Outcome State Fault Refusal) : Option State :=
  match o with
  | .next s => some s
  | .fault _ => none
  | .refused _ => none

/-- The rejection of a byte sequence, if it is rejected. -/
def rejection (r : Except DecodeError Instr) : Option DecodeError :=
  match r with
  | .ok _ => none
  | .error e => some e

/-- The frame of `READ 0x00, 0, 0, 0` (95_test_vectors.md 2.2). -/
def readFrame : List Byte := [0x01, 0x43, 0x00, 0x00, 0x00, 0x00, 0x44, 0x05]

/-- A READ in flight, in its attempt `n`, in the state `f`, with this `timer` and these events due. -/
def inFlight (f : Fsm) (n timer : Nat) (agenda : List Event) : State :=
  { State.reset with
    fsm := f, issued := true, txframe := readFrame, attempt := n, timer := timer, agenda := agenda }

/-- Listening for the response to a command of kind `k`, in attempt `n`. -/
def listening (k : CmdKind) (n : Nat) : State :=
  { inFlight .listen n 50000 [] with cmd := { initialCmd with kind := k } }

/-- Listening, with the frame `01 43 02 00 D7 ED DA` taken but for its last byte, and `waiting` in the
queue (95_test_vectors.md 2.6). -/
def almostReceived (waiting : List Byte) (n timer : Nat) (agenda : List Event) : State :=
  { inFlight .listen n timer agenda with
    acc := [0x01, 0x43, 0x02, 0x00, 0xD7, 0xED], crc := 0x00DA, rxfifo := waiting }

/-- Sending, with the last two bytes of the frame still to go (95_test_vectors.md 2.6). -/
def sending (agenda : List Event) : State :=
  { inFlight .txSend 1 0 agenda with
    txen := true, flow := true, txq := [0x44, 0x05]
    wireOut := [0x01, 0x43, 0x00, 0x00, 0x00, 0x00] }

/-- A clock cycle in which no input is asserted. -/
def quietCycle : PortIn := ⟨false, false, initialPort, false, false, 0, false⟩

/-- The command port with `READ 0x03, 0, 2, 1` on it. -/
def readPort : CmdPort := ⟨1, 0x03, 0x00, 0x02, 0x01, 0, 0, 0⟩

/-! ### The well-formedness checks refuse -/

theorem test_payload_of_256_bytes_is_refused :
    (Instr.rspRead (List.replicate 256 0) 0).payloadFits = false
      ∧ (Instr.rspRead (List.replicate 256 0) 0).wellFormed defaultCfg = false := by decide +kernel

theorem test_payload_of_255_bytes_fits :
    (Instr.rspWmask (List.replicate 255 0) 0).wellFormed defaultCfg = true := by decide +kernel

theorem test_request_with_swapped_crc_is_refused :
    (Instr.reqRead 0x03 0x02 0x00 0x01 0x2441).requestCrcRight defaultCfg = false
      ∧ (Instr.reqRead 0x03 0x02 0x00 0x01 0x2441).wellFormed defaultCfg = false
      ∧ (Instr.reqRead 0x03 0x02 0x00 0x01 0x4124).wellFormed defaultCfg = true := by decide +kernel

theorem test_illegal_configurations_are_refused :
    cfgLegal defaultCfg = true
      ∧ cfgLegal { defaultCfg with fcWrite := 0x43 } = false
      ∧ cfgLegal { defaultCfg with baud := 0 } = false
      ∧ cfgLegal { defaultCfg with profile := .reserved } = false
      ∧ cfgLegal { defaultCfg with rxTimeoutUs := 0 } = false
      ∧ cfgLegal { defaultCfg with attempts := 0 } = false
      ∧ cfgLegal { defaultCfg with attempts := 256 } = false
      ∧ cfgLegal { defaultCfg with baud := 1, worstCaseFrameBytes := 65535 } = false := by decide

/-! ### Words written out from the encodings (30_encoding.md; 95_test_vectors.md 2.2, 2.3) -/

theorem test_decode_reqRead :
    decode defaultCfg .sent [0x01, 0x43, 0x03, 0x02, 0x00, 0x01, 0x24, 0x41]
      = .ok (.reqRead 0x03 0x02 0x00 0x01 0x4124) := by rfl

theorem test_decode_reqRead_page_and_index :
    decode defaultCfg .sent [0x01, 0x43, 0x01, 0x00, 0x04, 0x0B, 0x06, 0xFE]
      = .ok (.reqRead 0x01 0x00 0x04 0x0B 0xFE06) := by rfl

theorem test_decode_reqWrite :
    decode defaultCfg .sent [0x01, 0x44, 0x02, 0x07, 0x03, 0x00, 0xD2, 0xFD, 0x19]
      = .ok (.reqWrite 0x02 0x07 0x03 0x00D2 0x19FD) := by rfl

theorem test_decode_reqWrite_with_count_byte :
    decode withCountByte .sent [0x01, 0x44, 0x02, 0x00, 0x00, 0x01, 0x00, 0xD2, 0x55, 0xBC]
      = .ok (.reqWrite 0x02 0x00 0x00 0x00D2 0xBC55) := by rfl

theorem test_decode_reqWmask :
    decode defaultCfg .sent
        [0x01, 0x45, 0x02, 0x07, 0x00, 0xFF, 0xF8, 0x00, 0x01, 0x91, 0x3D]
      = .ok (.reqWmask 0x02 0x07 0x00 0xFFF8 0x0001 0x3D91) := by rfl

theorem test_decode_reqWmask_with_count_byte :
    decode withCountByte .sent
        [0x01, 0x45, 0x02, 0x07, 0x00, 0x01, 0xFF, 0xF8, 0x00, 0x01, 0x95, 0xAD]
      = .ok (.reqWmask 0x02 0x07 0x00 0xFFF8 0x0001 0xAD95) := by rfl

theorem test_decode_rspRead :
    decode defaultCfg .received [0x01, 0x43, 0x02, 0x00, 0xD7, 0xED, 0xDA]
      = .ok (.rspRead [0x00, 0xD7] 0xDAED) := by rfl

theorem test_decode_rspWrite :
    decode defaultCfg .received [0x01, 0x44, 0x02, 0x00, 0xD2, 0x2C, 0xAD]
      = .ok (.rspWrite [0x00, 0xD2] 0xAD2C) := by rfl

theorem test_decode_rspWmask :
    decode defaultCfg .received [0x01, 0x45, 0x00, 0x12, 0x90]
      = .ok (.rspWmask [] 0x9012) := by rfl

theorem test_decode_rejects_by_name :
    rejection (decode defaultCfg .received [0x01, 0x43]) = some .incomplete
      ∧ rejection (decode defaultCfg .received [0x01, 0x43, 0x02, 0x00, 0xD7, 0xED])
          = some .incomplete
      ∧ rejection (decode defaultCfg .received [0x01, 0x43, 0x00, 0x11, 0x30, 0x00]) = some .overrun
      ∧ rejection (decode defaultCfg .received [0x02, 0x43, 0x02, 0x00, 0xD7, 0xA9, 0xDA])
          = some .wrongAddress
      ∧ rejection (decode defaultCfg .received [0x01, 0xC3, 0x01, 0xB1, 0x30, 0x00])
          = some .unknownFunction
      ∧ rejection (decode withCountByte .sent
          [0x01, 0x44, 0x02, 0x00, 0x00, 0x00, 0x00, 0xD2, 0x55, 0xBC]) = some .badCountByte
      ∧ rejection (decode defaultCfg .sent [0x01, 0x43, 0x03, 0x02, 0x00, 0x01, 0x24])
          = some .incomplete := by decide

/-! ### CRC, recognition, times, mask (95_test_vectors.md 2.1, 2.3, 2.4, 2.5) -/

theorem test_crc16_update :
    crc16Update 0x0000 0x01 = 0xC0C1 ∧ crc16Update 0x0000 0x80 = 0xA001
      ∧ crc16Update 0x8000 0x00 = 0x0080 ∧ crc16Update 0xFFFF 0x01 = 0x807E
      ∧ crc16Update 0xFFFF 0xFF = 0x00FF ∧ crc16Update 0x1234 0x56 = 0xE993
      ∧ crc16Update 0xA001 0x00 = 0xC061 := by decide

theorem test_crc16_check_value :
    crc16 [0x31, 0x32, 0x33, 0x34, 0x35, 0x36, 0x37, 0x38, 0x39] = 0x4B37
      ∧ crc16 [] = 0xFFFF ∧ crc16 [0xFF, 0xFF] = 0 := by decide +kernel

theorem test_frame_status :
    frameStatus defaultCfg [0x01, 0x43, 0x02, 0x00, 0xD7, 0xED, 0xDA] 0x43 = .good [0x00D7]
      ∧ frameStatus defaultCfg [0x01, 0x43, 0x03, 0x12, 0x34, 0x56, 0x72, 0xBA] 0x43
          = .good [0x1234]
      ∧ frameStatus defaultCfg [0x01, 0x43, 0x02, 0x00, 0xD7, 0xED, 0xDB] 0x43 = .crcBad
      ∧ frameStatus defaultCfg [0x02, 0x43, 0x02, 0x00, 0xD7, 0xED, 0xDB] 0x43 = .unmatched
      ∧ frameStatus defaultCfg [0x01, 0x44, 0x02, 0x00, 0xD2, 0x2C, 0xAD] 0x43 = .unmatched
      ∧ frameStatus defaultCfg [0x01, 0xC3, 0x01, 0xB1, 0x30] 0x43 = .incomplete := by decide +kernel

theorem test_derived_times :
    frameTimeUs { defaultCfg with baud := 3 } = 3666667
      ∧ frameTimeUs { defaultCfg with baud := 4000000000 } = 1
      ∧ postTxGuardUs { defaultCfg with baud := 9600 } = 16044 := by decide

theorem test_apply_mask :
    applyMask 0x1235 0xFFF8 0x0001 = 0x1231 ∧ applyMask 0x00F0 0xFF0F 0x0F00 = 0x0F00
      ∧ applyMask 0x0000 0x0000 0xFFFF = 0xFFFF := by decide

/-! ### One step of each instruction (95_test_vectors.md 2.6 and the programs of its part 3) -/

theorem test_step_reqRead :
    (after (step (State.reset.withFetchWord 64 0x0143030200012441))).map
        (fun t => (t.fsm, t.timer, t.txen, t.flow, t.txframe))
      = some (.preTx, 100, true, true, [0x01, 0x43, 0x03, 0x02, 0x00, 0x01, 0x24, 0x41]) := by
  decide +kernel

theorem test_step_reqWrite :
    (after (step (State.reset.withFetchWord 72 0x014402000000D2FD19))).map
        (fun t => (t.fsm, t.cmd.value, t.txframe))
      = some (.preTx, 0x00D2, [0x01, 0x44, 0x02, 0x00, 0x00, 0x00, 0xD2, 0xFD, 0x19]) := by
  decide +kernel

theorem test_step_reqWmask :
    (after (step (State.reset.withFetchWord 88 0x0145020700FFF80001913D))).map
        (fun t => (t.fsm, t.cmd.andMask, t.cmd.orMask, t.txframe))
      = some (.preTx, 0xFFF8, 0x0001,
          [0x01, 0x45, 0x02, 0x07, 0x00, 0xFF, 0xF8, 0x00, 0x01, 0x91, 0x3D]) := by
  decide +kernel

theorem test_step_rspRead :
    (after (step (almostReceived [0xDA, 0x55] 1 50000 [.rxConsume]))).map
        (fun t => (t.fsm, t.resValid, t.resStatus, t.resWords, t.rxfifo))
      = some (.idle, true, .ok, [0x00D7], [0x55]) := by
  decide +kernel

theorem test_step_rspRead_wrong_crc_final :
    (after (step (almostReceived [0xDB] 3 50000 [.rxConsume]))).map
        (fun t => (t.fsm, t.resStatus, t.resPreview, t.diag))
      = some (.idle, .crcMismatch, [0x01, 0x43, 0x02, 0x00, 0xD7, 0xED, 0xDB],
          [⟨.warn, .crcMismatch, 3⟩]) := by
  decide +kernel

theorem test_exec_rspWrite :
    (after (exec (.rspWrite [0x00, 0xD2] 0xAD2C) (listening .write 1))).map
        (fun t => (t.fsm, t.resStatus, t.resWords)) = some (.idle, .ok, []) := by
  decide +kernel

theorem test_exec_rspWrite_while_reading :
    (after (exec (.rspWrite [0x00, 0xD2] 0xAD2C) (listening .read 1))).map
        (fun t => (t.fsm, t.resValid)) = some (.listen, false) := by
  decide

theorem test_exec_rspWmask :
    (after (exec (.rspWmask [0x00, 0x01] 0xCC6C) (listening .wmask 1))).map
        (fun t => (t.fsm, t.resStatus, t.resWords)) = some (.idle, .ok, []) := by
  decide +kernel

theorem test_exec_rspWmask_wrong_crc_retries :
    (after (exec (.rspWmask [0x00, 0x01] 0xCC6D) (listening .wmask 1))).map
        (fun t => (t.fsm, t.attempt, t.timer, t.diag))
      = some (.backoff, 2, 0, [⟨.debug, .crcMismatch, 1⟩]) := by
  decide +kernel

/-! ### Inputs that meet the hypotheses of the statements -/

/-- Every clause: the four values of `cmd_kind`. -/
theorem test_meets_PortInstructionEncodesBuiltFrame :
    portInstr defaultCfg readPort = some (.reqRead 0x03 0x02 0x00 0x01 0x4124)
      ∧ initialPort.kind = 0 ∧ readPort.kind = 1 ∧ { readPort with kind := 2 }.kind = 2
      ∧ { readPort with kind := 3 }.kind = 3 := by decide +kernel

theorem test_meets_DecodeEncodeRoundTrip :
    cfgLegal defaultCfg = true ∧ (Instr.rspRead [] 0).payloadFits = true
      ∧ (Instr.rspRead (List.replicate 255 0xFF) 0xFFFF).payloadFits = true
      ∧ (Instr.reqWmask 0xFF 0xFF 0xFF 0xFFFF 0xFFFF 0xFFFF).payloadFits = true := by decide +kernel

theorem test_meets_EncodeDecodeRoundTrip :
    decode defaultCfg .received [0x01, 0x43, 0x00, 0x11, 0x30] = .ok (.rspRead [] 0x3011)
      ∧ decode defaultCfg .sent [0x01, 0x43, 0x00, 0x00, 0x00, 0x00, 0x44, 0x05]
          = .ok (.reqRead 0x00 0x00 0x00 0x00 0x0544) := ⟨rfl, rfl⟩

theorem test_meets_AcceptedFrameShape :
    frameStatus defaultCfg [0x01, 0x43, 0x00, 0x11, 0x30] 0x43 = .good [] := by decide +kernel

theorem test_meets_OnlyFirst260BytesMatter :
    (List.replicate 261 (0 : Byte)).take 260 = (List.replicate 300 (0 : Byte)).take 260
      ∧ min (List.replicate 261 (0 : Byte)).length 261
          = min (List.replicate 300 (0 : Byte)).length 261 := by decide +kernel

theorem test_meets_UnmatchedThenAlwaysOverrun :
    frameStatus defaultCfg [0x01, 0x44, 0x00, 0x00, 0x00] 0x43 = .unmatched
      ∧ frameStatus defaultCfg [0x01, 0x43, 0x00, 0x11, 0x30, 0x00] 0x43 = .overrun
      ∧ [(0x55 : Byte)] ≠ [] := by decide

theorem test_meets_CrcBadNeedsMatchingHeader :
    frameStatus defaultCfg [0x01, 0x43, 0x00, 0x11, 0x31] 0x43 = .crcBad := by decide +kernel

theorem test_meets_EchoedRequestIsAccepted :
    (0x03 : Byte).toNat + 5
      = (buildRequest defaultCfg ⟨.read, 0x03, 0x00, 0x02, 0x01, 0, 0, 0⟩).length := by decide

theorem test_meets_ReadIsIssued :
    State.reset.fsm = .idle ∧ (listening .read 1).fsm ≠ .idle := by decide

theorem test_meets_WriteIsIssued :
    State.reset.fsm = .idle ∧ (listening .write 1).fsm ≠ .idle := by decide

theorem test_meets_WmaskIsIssued :
    State.reset.fsm = .idle ∧ (listening .wmask 1).fsm ≠ .idle := by decide

theorem test_meets_ReadResponseDeliversWords :
    (listening .read 3).fsm = .listen ∧ (listening .read 3).cmd.kind = .read
      ∧ ([] : List Byte).length ≤ 255
      ∧ (0x3011 : Word) = crc16 ([0x01, 0x43, BitVec.ofNat 8 ([] : List Byte).length] ++ [])
      ∧ (List.replicate 255 (0 : Byte)).length ≤ 255 := by decide +kernel

theorem test_meets_WriteResponseCompletes :
    (listening .write 3).fsm = .listen ∧ (listening .write 3).cmd.kind = .write
      ∧ ([0x00, 0xD2] : List Byte).length ≤ 255
      ∧ (0xAD2C : Word) = crc16 ([0x01, 0x44, BitVec.ofNat 8 2] ++ [0x00, 0xD2]) := by decide +kernel

theorem test_meets_WmaskResponseCompletes :
    (listening .wmask 3).fsm = .listen ∧ (listening .wmask 3).cmd.kind = .wmask
      ∧ ([] : List Byte).length ≤ 255
      ∧ (0x9012 : Word) = crc16 ([0x01, 0x45, BitVec.ofNat 8 0] ++ []) := by decide +kernel

/-- Both clauses: the last attempt but one, and the last. -/
theorem test_meets_WrongCrcFailsTheAttempt :
    (listening .read 2).fsm = .listen ∧ (listening .read 2).cmd.kind = .read
      ∧ (0x3010 : Word) ≠ crc16 ([0x01, 0x43, BitVec.ofNat 8 0] ++ [])
      ∧ (listening .read 2).attempt < (listening .read 2).cfg.attempts
      ∧ (listening .read 3).fsm = .listen ∧ (listening .read 3).cmd.kind = .read
      ∧ (listening .read 3).cfg.attempts ≤ (listening .read 3).attempt := by decide +kernel

theorem test_meets_UnexpectedResponseChangesNothing :
    State.reset.fsm ≠ .listen ∧ (listening .read 1).cmd.kind ≠ .write := by decide

/-- With an unused input (`value`) that differs from the one last presented. -/
theorem test_meets_StepRunsThePresentedRequest :
    let p : CmdPort := { readPort with value := 0xFFFF }
    decode defaultCfg .sent [0x01, 0x43, 0x03, 0x02, 0x00, 0x01, 0x24, 0x41]
        = .ok (.reqRead 0x03 0x02 0x00 0x01 0x4124)
      ∧ (Instr.reqRead 0x03 0x02 0x00 0x01 0x4124).wellFormed defaultCfg = true
      ∧ portOf p (.reqRead 0x03 0x02 0x00 0x01 0x4124) = some p ∧ State.reset.port.value ≠ p.value
      ∧ { State.reset with agenda := [.issue p] }.agenda = [.issue p] :=
  ⟨rfl, by decide +kernel, rfl, by decide, rfl⟩

theorem test_meets_StepRunsTheReceivedResponse :
    (almostReceived [0xDA] 1 50000 [.rxConsume]).agenda = [.rxConsume]
      ∧ (almostReceived [0xDA] 1 50000 [.rxConsume]).fsm = .listen
      ∧ (almostReceived [0xDA] 1 50000 [.rxConsume]).rxfifo = [0xDA]
      ∧ decode defaultCfg .received
          ((almostReceived [0xDA] 1 50000 [.rxConsume]).acc ++ [0xDA])
          = .ok (.rspRead [0x00, 0xD7] 0xDAED) := ⟨rfl, rfl, rfl, rfl⟩

/-- A sent and a received word. -/
theorem test_meets_PlacedWordRunsNext :
    decodeTable State.reset.cfg 72 0x014402070300D2FD19
        = some (.reqWrite 0x02 0x07 0x03 0x00D2 0x19FD)
      ∧ decodeTable State.reset.cfg 24 0x0145FF
          = some (.rspWmask (List.replicate 255 0) 0x0000) := by decide +kernel

theorem test_meets_NoCommandNoStep :
    { State.reset with agenda := [.issue initialPort] }.agenda = [.issue initialPort]
      ∧ initialPort.kind = 0 := by decide

theorem test_meets_TickCountsDown :
    (inFlight .preTx 1 1 [.tick]).agenda = [.tick]
      ∧ (inFlight .preTx 1 0 [.tick]).agenda = [.tick] := by decide

theorem test_meets_ReceivedByteIsQueued :
    (inFlight .postTx 1 0 [.rxByte 0x01]).agenda = [.rxByte 0x01] := by decide

/-- Both clauses: two bytes to send, and none. -/
theorem test_meets_WireTakesTheNextByte :
    (sending [.wireTx]).agenda = [.wireTx] ∧ (sending [.wireTx]).fsm = .txSend
      ∧ (sending [.wireTx]).txq = [0x44, 0x05]
      ∧ (inFlight .txSend 1 0 [.wireTx]).agenda = [.wireTx]
      ∧ ¬ ((inFlight .txSend 1 0 [.wireTx]).fsm = .txSend
          ∧ (inFlight .txSend 1 0 [.wireTx]).txq ≠ []) := by decide

theorem test_meets_SettleDoneStartsSending :
    (inFlight .preTx 1 0 [.settleDone]).agenda = [.settleDone] := by decide

theorem test_meets_TxDoneReleasesTheLine :
    (inFlight .txSend 1 0 [.txDone]).agenda = [.txDone] := by decide

theorem test_meets_GuardDoneStartsListening :
    (inFlight .postTx 1 0 [.guardDone]).agenda = [.guardDone] := by decide

theorem test_meets_TimeoutFailsTheAttempt :
    (inFlight .listen 3 0 [.rxTimeout]).agenda = [.rxTimeout] := by decide

theorem test_meets_BackoffDoneStartsTheNextAttempt :
    (inFlight .backoff 2 0 [.backoffDone]).agenda = [.backoffDone] := by decide

/-- Both clauses: a byte waits in LISTEN, and none does. -/
theorem test_meets_ConsumeFollowsFrameStatus :
    cfgLegal (almostReceived [0xDA] 1 0 [.rxConsume]).cfg = true
      ∧ (almostReceived [0xDA] 1 0 [.rxConsume]).agenda = [.rxConsume]
      ∧ (almostReceived [0xDA] 1 0 [.rxConsume]).fsm = .listen
      ∧ (almostReceived [0xDA] 1 0 [.rxConsume]).rxfifo = [0xDA]
      ∧ (almostReceived [] 1 0 [.rxConsume]).agenda = [.rxConsume]
      ∧ ¬ ((almostReceived [] 1 0 [.rxConsume]).fsm = .listen
          ∧ (almostReceived [] 1 0 [.rxConsume]).rxfifo ≠ []) := by decide

theorem test_meets_ValidResponseIsTakenByteByByte :
    let i : Instr := .rspRead [] 0x3011
    let s : State := { listening .read 1 with
      rxfifo := [0x01, 0x43, 0x00, 0x11, 0x30, 0x55]
      agenda := [.rxConsume, .rxConsume, .rxConsume, .rxConsume, .rxConsume, .tick] }
    cfgLegal s.cfg = true ∧ i.direction = .received ∧ i.payloadFits = true
      ∧ crcField i = crc16 (bytesBeforeCrc s.cfg i) ∧ s.fsm = .listen ∧ s.cmd.kind = i.kind
      ∧ s.acc = [] ∧ s.crc = 0xFFFF ∧ s.rxfifo = encode s.cfg i ++ [0x55]
      ∧ s.agenda = List.replicate (encode s.cfg i).length .rxConsume ++ [.tick] := by decide +kernel

theorem test_meets_ResetInputAbandonsTheTransaction :
    (inFlight .listen 2 0 [.cycle { quietCycle with rst := true }]).agenda
        = [.cycle { quietCycle with rst := true }]
      ∧ Event.resets (.cycle { quietCycle with rst := true }) = true
      ∧ Event.resets .reset = true := by decide

/-- The three clauses: a legal one in time, an illegal one, a legal one too late. -/
theorem test_meets_ConfigurationIsTakenOnlyBeforeTheFirstIssue :
    { State.reset with agenda := [.config withCountByte] }.agenda = [.config withCountByte]
      ∧ cfgLegal withCountByte = true ∧ State.reset.issued = false
      ∧ cfgLegal { defaultCfg with attempts := 0 } = false
      ∧ (inFlight .listen 1 0 [.config withCountByte]).issued = true := by decide

theorem test_meets_NothingButConfigurationStops :
    ∀ (c : Cfg) (rest : List Event), (inFlight .listen 1 0 [.rxTimeout]).agenda ≠ .config c :: rest := by
  intro c rest h
  cases h

theorem test_meets_ConfigurationIsConstant :
    ∃ t, step { State.reset with agenda := [.config withCountByte] } = .next t := ⟨_, rfl⟩

/-- The example state that the next three statements share: the last attempt, its deadline passed. -/
theorem test_last_attempt_meets_Invariants : Invariants (inFlight .listen 3 0 [.rxTimeout]) where
  legal := by decide
  issued := fun _ => rfl
  txen := by decide
  flow := by decide
  attempt := fun _ => by decide
  crc := fun _ => by decide
  txqSuffix := by decide
  txqEmpty := fun _ => rfl
  noResult := fun _ => rfl
  frame := fun _ => by decide +kernel
  timer := by decide
  status := by decide
  words := by decide
  preview := by decide
  fresh := fun _ => rfl

theorem test_meets_EveryStepKeepsTheInvariants :
    Invariants (inFlight .listen 3 0 [.rxTimeout])
      ∧ ∃ t, step (inFlight .listen 3 0 [.rxTimeout]) = .next t :=
  ⟨test_last_attempt_meets_Invariants, _, rfl⟩

theorem test_meets_TransactionEndsInReceiveMode :
    Invariants (inFlight .listen 3 0 [.rxTimeout])
      ∧ (inFlight .listen 3 0 [.rxTimeout]).fsm ≠ .idle
      ∧ (inFlight .listen 3 0 [.rxTimeout]).agenda = [.rxTimeout]
      ∧ Event.resets .rxTimeout = false
      ∧ ∃ t, step (inFlight .listen 3 0 [.rxTimeout]) = .next t ∧ t.fsm = .idle :=
  ⟨test_last_attempt_meets_Invariants, by decide, rfl, rfl, _, rfl, rfl⟩

theorem test_meets_IssueStartsTheWireAccount :
    cfgLegal State.reset.cfg = true ∧ State.reset.fsm = .idle
      ∧ { State.reset with agenda := [.issue readPort] }.agenda = [.issue readPort]
      ∧ readPort.kind ≠ 0 := by decide

theorem test_sending_meets_WireAccount : WireAccount [] (sending [.wireTx]) where
  issued := rfl
  attemptPos := by decide
  attemptBound := by decide
  shape := ⟨[0x01, 0x43, 0x00, 0x00, 0x00, 0x00], by decide, by decide, by decide⟩

theorem test_meets_EveryStepKeepsTheWireAccount :
    WireAccount [] (sending [.wireTx]) ∧ (sending [.wireTx]).fsm ≠ .idle
      ∧ (sending [.wireTx]).agenda = [.wireTx] ∧ Event.resets .wireTx = false
      ∧ ∃ t, step (sending [.wireTx]) = .next t :=
  ⟨test_sending_meets_WireAccount, by decide, rfl, rfl, _, rfl⟩

theorem test_meets_FsmFollowsTheTransitionTable :
    (inFlight .backoff 2 0 [.backoffDone]).agenda = [.backoffDone]
      ∧ Event.atomic .backoffDone = true
      ∧ ∃ t, step (inFlight .backoff 2 0 [.backoffDone]) = .next t := ⟨rfl, rfl, _, rfl⟩

/-- A clock cycle with `cmd_valid = 1` and `cmd_kind = 0`. -/
theorem test_meets_ResultStaysUntilTheNextIssue :
    let e : Event := .cycle { quietCycle with cmdValid := true }
    State.reset.fsm = .idle ∧ e.offersCommand = false ∧ e.resets = false
      ∧ { State.reset with agenda := [e] }.agenda = [e]
      ∧ ∃ t, step { State.reset with agenda := [e] } = .next t :=
  ⟨rfl, rfl, rfl, rfl, _, rfl⟩

theorem test_meets_CommandInFlightIsConstant :
    (inFlight .listen 1 0 [.issue readPort]).fsm ≠ .idle
      ∧ (inFlight .listen 1 0 [.issue readPort]).agenda = [.issue readPort]
      ∧ Event.resets (.issue readPort) = false
      ∧ ∃ t, step (inFlight .listen 1 0 [.issue readPort]) = .next t :=
  ⟨by decide, rfl, rfl, _, rfl⟩

/-- A byte that arrives in the cycle in which it is taken. -/
theorem test_meets_NoReceivedByteIsLost :
    let p : PortIn := { quietCycle with rxValid := true, rxData := 0xDA }
    let s : State := { almostReceived [] 1 0 [.cycle p] with
      cfg := { defaultCfg with flushRxBeforeTx := false } }
    s.cfg.flushRxBeforeTx = false ∧ s.agenda = [.cycle p] ∧ Event.resets (.cycle p) = false
      ∧ ∃ t, step s = .next t := ⟨rfl, rfl, rfl, _, rfl⟩

theorem test_meets_BytesReachTheWireOnlyWhileSending :
    Invariants (sending [.wireTx]) ∧ (sending [.wireTx]).agenda = [.wireTx]
      ∧ Event.resets .wireTx = false
      ∧ ∃ t, step (sending [.wireTx]) = .next t ∧ t.wireOut ≠ (sending [.wireTx]).wireOut :=
  ⟨{ legal := by decide
     issued := fun _ => rfl
     txen := by decide
     flow := by decide
     attempt := fun _ => by decide
     crc := fun h => by cases h
     txqSuffix := by decide
     txqEmpty := fun h => absurd rfl h
     noResult := fun _ => rfl
     frame := fun _ => by decide +kernel
     timer := by decide
     status := by decide
     words := by decide
     preview := by decide
     fresh := fun h => by cases h }, rfl, rfl, _, rfl, by decide⟩

theorem test_meets_DiagnosticsFollowFailures :
    (inFlight .listen 2 0 [.rxTimeout]).agenda = [.rxTimeout] ∧ Event.resets .rxTimeout = false
      ∧ ∃ t, step (inFlight .listen 2 0 [.rxTimeout]) = .next t := ⟨rfl, rfl, _, rfl⟩

/-- At the bound: one TICK fewer than the timer holds. -/
theorem test_meets_DelaysAreLowerBounds :
    let s := inFlight .preTx 1 2 [.tick, .settleDone]
    s.fsm.timed = true ∧ (s.agenda.take 2).all (fun e => !e.resets) = true
      ∧ ticksOf (s.agenda.take 2) + 1 = s.timer ∧ ∃ t, runSteps 2 s = .next t :=
  ⟨rfl, rfl, rfl, _, rfl⟩

/-- The order of R44, with every input asserted. -/
theorem test_cycle_events_in_order :
    cycleEvents ⟨false, true, readPort, true, true, 0x55, true⟩ State.reset
      = [.rxByte 0x55, .wireTx, .issue readPort, .tick] := by decide

theorem test_meets_ClockCycleIsARunOfEvents :
    (almostReceived [0xDA] 1 0 [.cycle quietCycle]).agenda = [.cycle quietCycle]
      ∧ quietCycle.rst = false
      ∧ ∃ t, step (almostReceived [0xDA] 1 0 [.cycle quietCycle]) = .next t := ⟨rfl, rfl, _, rfl⟩

/-- Both clauses: the first byte after the deadline, and the second. -/
theorem test_meets_HardwareConsumesOneByteBeforeTheTimeout :
    let s := almostReceived [0x55] 1 0 [.cycle quietCycle]
    s.agenda = [.cycle quietCycle] ∧ quietCycle.rst = false ∧ quietCycle.rxValid = false
      ∧ quietCycle.txDone = false ∧ quietCycle.tickUs = false ∧ s.fsm = .listen ∧ s.timer = 0
      ∧ s.rxfifo ≠ [] ∧ s.lateConsume = false
      ∧ { s with lateConsume := true }.lateConsume = true := by decide

theorem test_meets_DerivedTimes :
    1 ≤ { defaultCfg with baud := 1 }.baud ∧ 11000000 ≤ { defaultCfg with baud := 11000000 }.baud
      ∧ 11000000 ≤ 287 * defaultCfg.baud := by decide

/-- Positions at the two sides of the count, a byte on the wire port, and a record's pulse with the
greatest attempt number. -/
theorem test_meets_OutputPortsShowTheState :
    let s : State := { State.reset with resWords := [0x1234, 0xABCD], resPreview := [0x01] }
    s.resWords[1]? = some 0xABCD ∧ resNwords s ≤ 2 ∧ s.resPreview[0]? = some 0x01
      ∧ resPreviewLen s ≤ 1 ∧ (sending []).fsm = .txSend ∧ (sending []).txq = [0x44, 0x05]
      ∧ { s with diag := [⟨.warn, .timeout, 3⟩] }.diag = s.diag ++ [⟨.warn, .timeout, 3⟩]
      ∧ 255 < 256 := by decide

theorem test_meets_RepeatedCommandLeavesTheSameCell :
    remoteCell (.reqWmask 0x02 0x07 0x00 0xFFF8 0x0001 0x3D91) 0x1235 = some 0x1231 := by decide

end Sys2Proof.Tests
end

section
/-! The instruction on the command port (R36, R101), and the frames behind the decoder that running an
instruction needs. -/

namespace Sys2Proof.Machine

/-- The request that the port inputs present as a command of kind `k`, with the builder's CRC (R140). -/
def presentedInstr (c : Cfg) (p : CmdPort) : CmdKind → Instr
  | .read => .reqRead p.category p.index p.page p.count
      (crc16 (requestHeader c .read p.category p.index p.page ++ readBody p.count))
  | .write => .reqWrite p.category p.index p.page p.value
      (crc16 (requestHeader c .write p.category p.index p.page ++ writeBody c p.value))
  | .wmask => .reqWmask p.category p.index p.page p.andMask p.orMask
      (crc16 (requestHeader c .wmask p.category p.index p.page ++ wmaskBody c p.andMask p.orMask))

theorem portInstr_eq (c : Cfg) (p : CmdPort) :
    portInstr c p = (kindOfCode p.kind).map (presentedInstr c p) := by
  unfold portInstr
  cases kindOfCode p.kind with
  | none => rfl
  | some k => cases k <;> rfl

theorem portInstr_of_kindCode {p : CmdPort} {k : CmdKind} (c : Cfg) (h : p.kind = kindCode k) :
    portInstr c p = some (presentedInstr c p k) := by
  rw [portInstr_eq, h, kindOfCode_kindCode]; rfl

/-- Every code of `cmd_kind` but 0 is the code of a kind (R101). -/
theorem exists_kindCode_of_ne_zero {code : BitVec 2} (h : code ≠ 0) : ∃ k, code = kindCode k := by
  have codes : ∀ code : BitVec 2, code ≠ 0 →
      code = kindCode .read ∨ code = kindCode .write ∨ code = kindCode .wmask := by decide
  rcases codes code h with h | h | h
  · exact ⟨_, h⟩
  · exact ⟨_, h⟩
  · exact ⟨_, h⟩

/-- What is on the command port is the request of one of the three kinds. -/
theorem portInstr_some {c : Cfg} {p : CmdPort} {i : Instr} (h : portInstr c p = some i) :
    ∃ k, i = presentedInstr c p k := by
  rw [portInstr_eq, Option.map_eq_some_iff] at h
  obtain ⟨k, -, rfl⟩ := h
  exact ⟨k, rfl⟩

/-- The command of kind `k` that the port inputs present, every input latched as given (R22, log 8). -/
def presentedCmd (p : CmdPort) (k : CmdKind) : Cmd :=
  ⟨k, p.category, p.page, p.index, p.count, p.value, p.andMask, p.orMask⟩

section
variable (c : Cfg) (p : CmdPort) (k : CmdKind)

@[simp] theorem presentedInstr_kind : (presentedInstr c p k).kind = k := by cases k <;> rfl

@[simp] theorem presentedInstr_direction : (presentedInstr c p k).direction = .sent := by
  cases k <;> rfl

theorem presentedInstr_payloadFits : (presentedInstr c p k).payloadFits = true := by cases k <;> rfl

/-- The CRC field of the presented request is the builder's. -/
theorem presentedInstr_crcField :
    crcField (presentedInstr c p k) = crc16 (bytesBeforeCrc c (presentedInstr c p k)) := by
  cases k <;> rfl

theorem presentedInstr_wellFormed : (presentedInstr c p k).wellFormed c = true := by
  rw [Instr.wellFormed, presentedInstr_payloadFits, Bool.true_and, Instr.requestCrcRight,
    presentedInstr_direction]
  exact beq_iff_eq.mpr (presentedInstr_crcField c p k)

/-- Before its CRC the presented request is what the builder lays out (R140 to R143). -/
theorem presentedInstr_bytesBeforeCrc :
    bytesBeforeCrc c (presentedInstr c p k) = requestHeader c k p.category p.index p.page
      ++ requestBody c (presentedCmd p k) := by
  cases k <;> rfl

theorem presentedInstr_encode :
    encode c (presentedInstr c p k) = buildRequest c (presentedCmd p k) := by
  rw [encode, presentedInstr_crcField, presentedInstr_bytesBeforeCrc]; rfl

/-- The presented request is ISSUE of the presented command (R205). -/
theorem exec_presentedInstr (s : State) : exec (presentedInstr c p k) { s with port := p }
    = .next (issueCommand (presentedCmd p k) { s with port := p }) := by
  cases k <;> rfl

end

theorem issuePort_none {p : CmdPort} (s : State) (h : p.kind = 0) :
    issuePort p s = .next { s with port := p } := by
  rw [issuePort, portInstr_none s.cfg h]

theorem issuePort_of_kindCode {p : CmdPort} {k : CmdKind} (s : State) (h : p.kind = kindCode k) :
    issuePort p s = .next (issueCommand (presentedCmd p k) { s with port := p }) := by
  rw [issuePort, portInstr_of_kindCode s.cfg h]
  exact exec_presentedInstr s.cfg p k s

/-- ISSUE of inputs that present `i` is `i`, whose CRC field no ISSUE reads (R140). -/
theorem issuePort_of_portOf {q p : CmdPort} {i : Instr} (h : portOf q i = some p) (s : State) :
    issuePort p s = exec i { s with port := p } := by
  have issued {k : CmdKind} (hk : p.kind = kindCode k) :
      issuePort p s = exec (presentedInstr s.cfg p k) { s with port := p } := by
    rw [issuePort, portInstr_of_kindCode s.cfg hk]
  cases i with
  | reqRead _ _ _ _ _ => cases h; exact issued (k := .read) rfl
  | reqWrite _ _ _ _ _ => cases h; exact issued (k := .write) rfl
  | reqWmask _ _ _ _ _ _ => cases h; exact issued (k := .wmask) rfl
  | rspRead _ _ => cases h
  | rspWrite _ _ => cases h
  | rspWmask _ _ => cases h

/-- With a command offered in IDLE, ISSUE through the port begins its first attempt (R205). -/
theorem issuePort_idle {p : CmdPort} {s : State} (hf : s.fsm = .idle) (hk : p.kind ≠ 0) :
    ∃ m, issuePort p s = .next (startAttempt (latchCommand m { s with port := p })) := by
  obtain ⟨k, hk⟩ := exists_kindCode_of_ne_zero hk
  rw [issuePort_of_kindCode s hk, issueCommand_idle (s := { s with port := p }) _ hf]
  exact ⟨_, rfl⟩

/-- A sent frame decodes to a request. -/
theorem decodeRequest_direction {c : Cfg} {a : List Byte} {i : Instr}
    (h : decodeRequest c a = .ok i) : i.direction = .sent := by
  have read {x y z : Byte} {b : List Byte} (h : decodeReadBody x y z b = .ok i) :
      i.direction = .sent := by
    unfold decodeReadBody at h
    split at h <;> cases h
    rfl
  have write {x y z : Byte} {b : List Byte} (h : decodeWriteBody x y z b = .ok i) :
      i.direction = .sent := by
    unfold decodeWriteBody at h
    split at h <;> cases h
    rfl
  have wmask {x y z : Byte} {b : List Byte} (h : decodeWmaskBody x y z b = .ok i) :
      i.direction = .sent := by
    unfold decodeWmaskBody at h
    split at h <;> cases h
    rfl
  unfold decodeRequest at h
  split at h
  case h_2 => cases h
  split at h
  · cases h
  split at h
  · cases h
  · exact read h
  · split at h
    · cases h
    · exact write h
  · split at h
    · cases h
    · exact wmask h

/-- What decodes is of the direction it was decoded in (R99). -/
theorem decode_direction {c : Cfg} {d : Direction} {a : List Byte} {i : Instr}
    (h : decode c d a = .ok i) : i.direction = d := by
  cases d with
  | sent => exact decodeRequest_direction h
  | received => exact decodeResponse_direction h

/-- The function code of a kind, read back (R99). -/
theorem fc_of_kindOfFunction {c : Cfg} {f : Byte} {k : CmdKind} (h : kindOfFunction c f = some k) :
    fc c k = f := by
  unfold kindOfFunction at h
  split_ifs at h with isRead isWrite isWmask <;> cases h
  · exact isRead.symm
  · exact isWrite.symm
  · exact isWmask.symm

/-- The two bytes of a CRC field are the field's word, low byte first (R98). -/
theorem crcBytes_crcOfBytes {a : List Byte} (h : a.length = 2) : crcBytes (crcOfBytes a) = a := by
  obtain ⟨lo, hi, rfl⟩ := List.length_eq_two.mp h
  rw [crcBytes, crcOfBytes, lo8_mkWord, hi8_mkWord]

theorem encode_responseOf (c : Cfg) (k : CmdKind) (payload : List Byte) (crc : Word) :
    encode c (responseOf k payload crc) = responseBytes c k payload ++ crcBytes crc := by
  cases k <;> rfl

/-- A received frame is the encoding of what it decodes to. -/
theorem encode_of_decodeResponse {c : Cfg} {a : List Byte} {i : Instr}
    (h : decodeResponse c a = .ok i) : encode c i = a := by
  obtain ⟨func, n, rest, k, rfl, hlen, hk, rfl⟩ := decodeResponse_ok h
  have count : BitVec.ofNat 8 (rest.take n.toNat).length = n := by
    rw [List.length_take_of_le (by omega), BitVec.ofNat_toNat, BitVec.setWidth_eq]
  have field : crcBytes (crcOfBytes (rest.drop n.toNat)) = rest.drop n.toNat :=
    crcBytes_crcOfBytes (by rw [List.length_drop]; omega)
  rw [encode_responseOf, responseBytes, count, field, fc_of_kindOfFunction hk]
  simp

end Sys2Proof.Machine
end

section
/-! What one step can do, said once. Every step that is no reset passes four stages: the event's wire
inputs are sampled, in LISTEN at most one byte is taken from the queue, the transaction engine makes at
most one move, and the timer counts the event's TICKs. An atomic event (R202) fills one stage, a clock
cycle (R44) can fill all four. -/

namespace Sys2Proof.Machine

/-- The first stage: `added` joins the receive queue (R46), in TX_SEND the head of `txq` may move to the
wire (R47), and `rest` is what is still to happen. The port inputs and the arbitration bit, the model's
own (log 3, 13), are left free. -/
inductive Sampled (rest : List Event) (added : List Byte) (s : State) : State → Prop
  | queued (port : CmdPort) (late : Bool) :
    Sampled rest added s { s with
      agenda := rest, port := port, lateConsume := late, rxfifo := s.rxfifo ++ added }
  | sent (port : CmdPort) (late : Bool) (b : Byte) (queue : List Byte)
      (sending : s.fsm = .txSend) (front : s.txq = b :: queue) :
    Sampled rest added s { s with
      agenda := rest, port := port, lateConsume := late, rxfifo := s.rxfifo ++ added
      wireOut := s.wireOut ++ [b], txq := queue }

/-- The second stage: in LISTEN the byte at the front of the queue may be taken (R209). -/
inductive Taken (s : State) : State → Prop
  | none : Taken s s
  | byte (b : Byte) (rest : List Byte) (listening : s.fsm = .listen) (front : s.rxfifo = b :: rest) :
    Taken s (takeByte b rest s)

/-- The third stage: at most one move of the transaction engine, with the condition it needs. -/
inductive EngineMove (e : Event) (s : State) : State → Prop
  /-- Nothing is enabled (log 5). -/
  | stay : EngineMove e s s
  /-- ISSUE (R205) -/
  | issue (m : Cmd) (offered : e.offersCommand = true) (idle : s.fsm = .idle) :
    EngineMove e s (startAttempt (latchCommand m s))
  /-- The platform presents a configuration (R40, R43). -/
  | configure (c : Cfg) (presented : e = .config c) (legal : cfgLegal c = true)
      (early : s.issued = false) :
    EngineMove e s { s with cfg := c }
  /-- SETTLE_DONE (R206) -/
  | settle (settling : s.fsm = .preTx) (due : s.timer = 0) :
    EngineMove e s { s with txq := s.txframe, fsm := .txSend }
  /-- TX_DONE (R207) -/
  | release (sending : s.fsm = .txSend) (empty : s.txq = []) :
    EngineMove e s { s with
      txen := false
      flow := if s.cfg.hasFlow then false else s.flow
      timer := postTxGuardUs s.cfg
      fsm := .postTx }
  /-- GUARD_DONE (R208) -/
  | listen (guarding : s.fsm = .postTx) (due : s.timer = 0) :
    EngineMove e s { s with
      acc := []
      crc := crcInit
      timer := s.cfg.rxTimeoutUs
      fsm := .listen
      lateConsume := false }
  /-- `complete_ok` (R218), with words that fit a byte count (R90). -/
  | complete (words : List Word) (listening : s.fsm = .listen) (fits : words.length ≤ 127) :
    EngineMove e s (completeOk words s)
  /-- `attempt_failed` with a retry left (R222) -/
  | retry (k : ErrKind) (listening : s.fsm = .listen) (left : s.attempt < s.cfg.attempts) :
    EngineMove e s (retryAfter k s)
  /-- `attempt_failed` of the final attempt (R222) -/
  | giveUp (k : ErrKind) (listening : s.fsm = .listen) (final : s.cfg.attempts ≤ s.attempt) :
    EngineMove e s (finalFailure k s)
  /-- BACKOFF_DONE (R223) -/
  | restart (waiting : s.fsm = .backoff) (due : s.timer = 0) :
    EngineMove e s (startAttempt s)

/-- The last stage: the timer counts `n` TICKs down and stops at 0 (R45). -/
def countTicks (n : Nat) (s : State) : State := { s with timer := s.timer - n }

theorem countTicks_zero (s : State) : countTicks 0 s = s := rfl

theorem countTicks_one (s : State) : countTicks 1 s = tick s := rfl

/-- The four stages of a step on the event `e` with `rest` behind it, one after the other. -/
def Stages (e : Event) (rest : List Event) (s t : State) : Prop :=
  ∃ s₁ s₂ s₃, Sampled rest e.arriving s s₁ ∧ Taken s₁ s₂ ∧ EngineMove e s₂ s₃ ∧ t = countTicks e.ticks s₃

/-! ### What each stage leaves unchanged -/

section
variable {rest : List Event} {added : List Byte} {s u : State}

theorem Sampled.fsm_eq (h : Sampled rest added s u) : u.fsm = s.fsm := by cases h <;> rfl
theorem Sampled.cfg_eq (h : Sampled rest added s u) : u.cfg = s.cfg := by cases h <;> rfl
theorem Sampled.cmd_eq (h : Sampled rest added s u) : u.cmd = s.cmd := by cases h <;> rfl
theorem Sampled.txframe_eq (h : Sampled rest added s u) : u.txframe = s.txframe := by cases h <;> rfl
theorem Sampled.issued_eq (h : Sampled rest added s u) : u.issued = s.issued := by cases h <;> rfl
theorem Sampled.attempt_eq (h : Sampled rest added s u) : u.attempt = s.attempt := by cases h <;> rfl
theorem Sampled.timer_eq (h : Sampled rest added s u) : u.timer = s.timer := by cases h <;> rfl
theorem Sampled.diag_eq (h : Sampled rest added s u) : u.diag = s.diag := by cases h <;> rfl
theorem Sampled.acc_eq (h : Sampled rest added s u) : u.acc = s.acc := by cases h <;> rfl
theorem Sampled.agenda_eq (h : Sampled rest added s u) : u.agenda = rest := by cases h <;> rfl
theorem Sampled.rxfifo_eq (h : Sampled rest added s u) : u.rxfifo = s.rxfifo ++ added := by
  cases h <;> rfl

/-- The result registers are the engine's. -/
theorem Sampled.result_eq (h : Sampled rest added s u) :
    u.resValid = s.resValid ∧ u.resStatus = s.resStatus ∧ u.resWords = s.resWords
      ∧ u.resPreview = s.resPreview := by
  cases h <;> exact ⟨rfl, rfl, rfl, rfl⟩

/-- The arbitration bit is no part of what a stage says. -/
theorem Sampled.setLate (h : Sampled rest added s u) (late : Bool) :
    Sampled rest added s { u with lateConsume := late } := by
  cases h with
  | queued p _ => exact .queued p late
  | sent p _ b queue hf hq => exact .sent p late b queue hf hq

/-- The port inputs are no part of what a stage says. -/
theorem Sampled.setPort (h : Sampled rest added s u) (port : CmdPort) :
    Sampled rest added s { u with port := port } := by
  cases h with
  | queued _ l => exact .queued port l
  | sent _ l b queue hf hq => exact .sent port l b queue hf hq

/-- What was to happen before the step is no part of what a stage says. -/
theorem Sampled.of_setAgenda {agenda : List Event}
    (h : Sampled rest added { s with agenda := agenda } u) : Sampled rest added s u := by
  cases h with
  | queued p l => exact .queued p l
  | sent p l b queue hf hq => exact .sent p l b queue hf hq

/-- An event that brings no byte can leave the state to the later stages. -/
theorem Sampled.refl (s : State) : Sampled s.agenda [] s s := by
  have h := Sampled.queued (rest := s.agenda) (added := []) (s := s) s.port s.lateConsume
  rwa [List.append_nil] at h

theorem Taken.fsm_eq (h : Taken s u) : u.fsm = s.fsm := by cases h <;> rfl
theorem Taken.cfg_eq (h : Taken s u) : u.cfg = s.cfg := by cases h <;> rfl
theorem Taken.cmd_eq (h : Taken s u) : u.cmd = s.cmd := by cases h <;> rfl
theorem Taken.txframe_eq (h : Taken s u) : u.txframe = s.txframe := by cases h <;> rfl
theorem Taken.issued_eq (h : Taken s u) : u.issued = s.issued := by cases h <;> rfl
theorem Taken.attempt_eq (h : Taken s u) : u.attempt = s.attempt := by cases h <;> rfl
theorem Taken.timer_eq (h : Taken s u) : u.timer = s.timer := by cases h <;> rfl
theorem Taken.agenda_eq (h : Taken s u) : u.agenda = s.agenda := by cases h <;> rfl
theorem Taken.diag_eq (h : Taken s u) : u.diag = s.diag := by cases h <;> rfl
theorem Taken.wireOut_eq (h : Taken s u) : u.wireOut = s.wireOut := by cases h <;> rfl

theorem Taken.result_eq (h : Taken s u) :
    u.resValid = s.resValid ∧ u.resStatus = s.resStatus ∧ u.resWords = s.resWords
      ∧ u.resPreview = s.resPreview := by
  cases h <;> exact ⟨rfl, rfl, rfl, rfl⟩

theorem EngineMove.agenda_eq {e : Event} (h : EngineMove e s u) : u.agenda = s.agenda := by
  cases h <;> rfl

/-- Bytes go to the wire in the first stage only. -/
theorem EngineMove.wireOut_eq {e : Event} (h : EngineMove e s u) : u.wireOut = s.wireOut := by
  cases h <;> rfl

end

/-! ### The engine's steps are its moves -/

section
variable {e : Event}

theorem attemptFailed_move {s : State} (k : ErrKind) (hf : s.fsm = .listen) :
    EngineMove e s (attemptFailed k s) := by
  rcases attemptFailed_cases k s with ⟨ha, h⟩ | ⟨ha, h⟩
  · exact h ▸ .retry k hf ha
  · exact h ▸ .giveUp k hf ha

theorem settleDone_move (s : State) : EngineMove e s (settleDone s) := by
  rcases settleDone_cases s with h | ⟨hf, ht, h⟩
  · exact h.symm ▸ .stay
  · exact h ▸ .settle hf ht

theorem txDone_move (s : State) : EngineMove e s (txDone s) := by
  rcases txDone_cases s with h | ⟨hf, hq, h⟩
  · exact h.symm ▸ .stay
  · exact h ▸ .release hf hq

theorem guardDone_move (s : State) : EngineMove e s (guardDone s) := by
  rcases guardDone_cases s with h | ⟨hf, ht, h⟩
  · exact h.symm ▸ .stay
  · exact h ▸ .listen hf ht

theorem rxTimeout_move (s : State) : EngineMove e s (rxTimeout s) := by
  rcases rxTimeout_cases s with h | ⟨hf, -, h⟩
  · exact h.symm ▸ .stay
  · exact h ▸ attemptFailed_move .timeout hf

theorem backoffDone_move (s : State) : EngineMove e s (backoffDone s) := by
  rcases backoffDone_cases s with h | ⟨hf, ht, h⟩
  · exact h.symm ▸ .stay
  · exact h ▸ .restart hf ht

/-- A received frame has at most 127 whole payload words: its byte count is at most 255 (R90). -/
theorem decodeResponse_words_le {c : Cfg} {a : List Byte} {i : Instr}
    (h : decodeResponse c a = .ok i) : (wordsOf (payloadOf i)).length ≤ 127 := by
  obtain ⟨_, n, rest, k, -, -, -, rfl⟩ := decodeResponse_ok h
  rw [responseOf_payload, wordsOf_length, List.length_take]
  have := n.isLt
  omega

theorem rxConsume_stages {s t : State} (h : rxConsume s = .next t) :
    ∃ u, Taken s u ∧ EngineMove e u t := by
  rcases rxConsume_cases s with h' | ⟨b, rest, t', hf, hq, h', ht⟩ <;> cases h.symm.trans h'
  · exact ⟨s, .none, .stay⟩
  refine ⟨takeByte b rest s, .byte b rest hf hq, ?_⟩
  rcases ht with rfl | ⟨i, hi, -, -, rfl⟩ | ⟨i, -, -, -, rfl⟩
  · exact .stay
  · exact .complete _ hf (decodeResponse_words_le hi)
  · exact attemptFailed_move .crcMismatch hf

/-- ISSUE through the port is a move only where the event offers a command (R104). -/
theorem issuePort_move {p : CmdPort} {s t : State} (offers : p.kind ≠ 0 → e.offersCommand = true)
    (h : issuePort p s = .next t) : EngineMove e { s with port := p } t := by
  by_cases hk : p.kind = 0
  · cases (issuePort_none s hk).symm.trans h
    exact .stay
  · obtain ⟨t', h', ht⟩ := issuePort_cases p s
    cases h.symm.trans h'
    rcases ht with rfl | ⟨hf, m, rfl⟩
    · exact .stay
    · exact .issue m (offers hk) hf

theorem internalStep_stages {s t : State} (h : internalStep s = .next t) :
    ∃ late u, Taken { s with lateConsume := late } u ∧ EngineMove e u t := by
  unfold internalStep at h
  split at h
  case h_1 => cases h; exact ⟨_, _, .none, .stay⟩
  case h_2 => cases h; exact ⟨_, _, .none, settleDone_move s⟩
  case h_3 => cases h; exact ⟨_, _, .none, txDone_move s⟩
  case h_4 => cases h; exact ⟨_, _, .none, guardDone_move s⟩
  case h_5 =>
    split at h
    · obtain ⟨u, hu, ht⟩ := rxConsume_stages h
      exact ⟨_, u, hu, ht⟩
    · cases h; exact ⟨_, _, .none, rxTimeout_move s⟩
  case h_6 => cases h; exact ⟨_, _, .none, backoffDone_move s⟩

theorem wireInputs_sampled (p : PortIn) (s : State) :
    Sampled s.agenda (Event.cycle p).arriving s (wireInputs p s) := by
  obtain ⟨_, rfl, h | ⟨b, rest, hf, hq, -, h⟩⟩ := wireInputs_cases p s
  · exact h ▸ .queued s.port s.lateConsume
  · exact h ▸ .sent s.port s.lateConsume b rest hf hq

/-- A clock cycle without reset: the main stage, then TICK. -/
theorem clockCycle_stages {p : PortIn} {s t : State} (hr : p.rst = false)
    (h : clockCycle p s = .next t) : Stages (.cycle p) s.agenda s t := by
  have sampled := wireInputs_sampled p s
  have ticked (u : State) : (if p.tickUs then tick u else u) = countTicks (Event.cycle p).ticks u := by
    cases hp : p.tickUs <;> simp [Event.ticks, hp, countTicks_zero, countTicks_one]
  by_cases hf : s.fsm = .idle
  · rw [clockCycle_idle hr hf] at h
    cases hv : p.cmdValid with
    | false =>
      simp only [hv, Bool.false_eq_true, if_false, andThen_next, ticked] at h
      cases h
      exact ⟨_, _, _, sampled, .none, .stay, rfl⟩
    | true =>
      obtain ⟨u, hu, -⟩ := issuePort_cases p.cmd (wireInputs p s)
      simp only [hv, if_true, hu, andThen_next, ticked] at h
      cases h
      have offers : p.cmd.kind ≠ 0 → (Event.cycle p).offersCommand = true := fun hk => by
        rw [Event.offersCommand, hv]
        exact bne_iff_ne.mpr hk
      exact ⟨_, _, _, sampled.setPort p.cmd, .none, issuePort_move offers hu, rfl⟩
  · rw [clockCycle_busy hr hf] at h
    cases hu : internalStep (wireInputs p s) with
    | fault r => cases r
    | refused r => rw [hu] at h; cases h
    | next u =>
      simp only [hu, andThen_next, ticked] at h
      cases h
      obtain ⟨late, v, hv, hm⟩ := internalStep_stages (e := .cycle p) hu
      exact ⟨_, v, u, sampled.setLate late, hv, hm, rfl⟩

/-- An event that brings neither byte nor TICK and only moves the engine. -/
theorem Stages.of_move {s t : State} (harr : e.arriving = []) (htick : e.ticks = 0)
    (h : EngineMove e s t) : Stages e s.agenda s t :=
  ⟨s, s, t, harr ▸ .refl s, .none, h, by rw [htick, countTicks_zero]⟩

theorem perform_stages {s t : State} (hr : e.resets = false) (h : perform e s = .next t) :
    Stages e s.agenda s t := by
  cases e with
  | issue p =>
    have offers : p.kind ≠ 0 → (Event.issue p).offersCommand = true := bne_iff_ne.mpr
    exact ⟨_, _, t, (Sampled.refl s).setPort p, .none, issuePort_move offers h, rfl⟩
  | wireTx =>
    cases h
    refine ⟨wireTx s, wireTx s, wireTx s, ?_, .none, .stay, rfl⟩
    rcases wireTx_cases s with hs | ⟨b, rest, hf, hq, hs⟩
    · rw [hs]; exact .refl s
    · have sent := Sampled.sent (rest := s.agenda) (added := []) s.port s.lateConsume b rest hf hq
      rw [List.append_nil] at sent
      rw [hs]; exact sent
  | rxByte b =>
    cases h
    exact ⟨_, _, _, .queued s.port s.lateConsume, .none, .stay, rfl⟩
  | tick => cases h; exact ⟨s, s, s, .refl s, .none, .stay, rfl⟩
  | settleDone => cases h; exact .of_move rfl rfl (settleDone_move s)
  | txDone => cases h; exact .of_move rfl rfl (txDone_move s)
  | guardDone => cases h; exact .of_move rfl rfl (guardDone_move s)
  | rxConsume =>
    obtain ⟨u, hu, ht⟩ := rxConsume_stages h
    exact ⟨s, u, t, .refl s, hu, ht, rfl⟩
  | rxTimeout => cases h; exact .of_move rfl rfl (rxTimeout_move s)
  | backoffDone => cases h; exact .of_move rfl rfl (backoffDone_move s)
  | reset => cases hr
  | config c =>
    obtain ⟨hl, hi, rfl⟩ := presentConfig_next h
    exact .of_move rfl rfl (.configure c rfl hl hi)
  | cycle p => exact clockCycle_stages hr h

end

/-- Every step that is no reset passes the four stages. -/
theorem step_stages {s t : State} {e : Event} {rest : List Event} (ha : s.agenda = e :: rest)
    (hr : e.resets = false) (h : step s = .next t) : Stages e rest s t := by
  rw [step_agenda_cons ha] at h
  obtain ⟨s₁, s₂, s₃, h₁, h₂, h₃, ht⟩ := perform_stages hr h
  exact ⟨s₁, s₂, s₃, h₁.of_setAgenda, h₂, h₃, ht⟩

/-- A step on a reset is the reset input (R291). -/
theorem step_resets {s t : State} {e : Event} {rest : List Event} (ha : s.agenda = e :: rest)
    (hr : e.resets = true) (h : step s = .next t) : t = applyReset { s with agenda := rest } := by
  rw [step_agenda_cons ha] at h
  cases e with
  | reset => cases h; rfl
  | cycle p =>
    have hp : p.rst = true := hr
    rw [perform, clockCycle, if_pos hp] at h
    cases h; rfl
  | _ => cases hr

/-- A step does nothing, is a reset, or passes the four stages. -/
theorem step_cases {s t : State} (h : step s = .next t) :
    t = s ∨ (∃ rest, t = applyReset { s with agenda := rest })
      ∨ ∃ e rest, s.agenda = e :: rest ∧ Stages e rest s t := by
  cases ha : s.agenda with
  | nil =>
    rw [step_agenda_nil ha] at h
    cases h
    exact .inl rfl
  | cons e rest =>
    cases hr : e.resets with
    | true => exact .inr (.inl ⟨rest, step_resets ha hr h⟩)
    | false => exact .inr (.inr ⟨e, rest, rfl, step_stages ha hr h⟩)

end Sys2Proof.Machine
end

section
/-! The invariants of R48, stage by stage. -/

namespace Sys2Proof.Machine

/-! ### What a legal configuration bounds (R43) -/

section
variable {c : Cfg}

/-- The attempt budget is at least one attempt, and the four values a step loads into the timer fit its
width (R12, R41). -/
theorem cfgLegal_bounds (h : cfgLegal c = true) :
    1 ≤ c.attempts ∧ c.preTxSettleUs < 2 ^ 32 ∧ postTxGuardUs c < 2 ^ 32 ∧ c.rxTimeoutUs < 2 ^ 32
      ∧ c.retryBackoffUs < 2 ^ 32 := by
  simp only [cfgLegal, Bool.and_eq_true, decide_eq_true_eq] at h
  omega

theorem cfgLegal_attempts_pos (h : cfgLegal c = true) : 1 ≤ c.attempts := (cfgLegal_bounds h).1

theorem cfgLegal_settle_lt (h : cfgLegal c = true) : c.preTxSettleUs < 2 ^ 32 :=
  have ⟨_, settle, _, _, _⟩ := cfgLegal_bounds h
  settle

theorem cfgLegal_guard_lt (h : cfgLegal c = true) : postTxGuardUs c < 2 ^ 32 :=
  have ⟨_, _, guard, _, _⟩ := cfgLegal_bounds h
  guard

theorem cfgLegal_rxTimeout_lt (h : cfgLegal c = true) : c.rxTimeoutUs < 2 ^ 32 :=
  have ⟨_, _, _, rxTimeout, _⟩ := cfgLegal_bounds h
  rxTimeout

theorem cfgLegal_backoff_lt (h : cfgLegal c = true) : c.retryBackoffUs < 2 ^ 32 :=
  have ⟨_, _, _, _, backoff⟩ := cfgLegal_bounds h
  backoff

end

theorem statusOf_ne_invalidChannel (k : ErrKind) : statusOf k ≠ .invalidChannel := by
  cases k <;> decide

/-- (I1) outside the two sending states. -/
theorem Invariants.txen_off {s : State} (hi : Invariants s) (h₁ : s.fsm ≠ .preTx)
    (h₂ : s.fsm ≠ .txSend) : s.txen = false := by
  rw [Bool.eq_false_iff, Ne, hi.txen]
  exact fun h => h.elim h₁ h₂

/-- (I1) and (I2) together outside the two sending states. -/
theorem Invariants.flow_off {s : State} (hi : Invariants s) (h₁ : s.fsm ≠ .preTx)
    (h₂ : s.fsm ≠ .txSend) : s.flow = false := by
  rw [hi.flow, hi.txen_off h₁ h₂, Bool.and_false]

/-! ### The stages -/

theorem Invariants.sampled {rest : List Event} {added : List Byte} {s u : State} (hi : Invariants s)
    (h : Sampled rest added s u) : Invariants u := by
  cases h with
  | queued _ _ => exact { hi with }
  | sent _ _ b queue sending front =>
    have suffix : queue <:+ s.txframe := (front ▸ List.suffix_cons b queue).trans hi.txqSuffix
    exact { hi with txqSuffix := suffix, txqEmpty := fun h => absurd sending h }

theorem Invariants.taken {s u : State} (hi : Invariants s) (h : Taken s u) : Invariants u := by
  cases h with
  | none => exact hi
  | byte b rest listening front =>
    have crc : crc16Update s.crc b = crc16 (s.acc ++ [b]) := by
      rw [crc16_append, hi.crc listening]; rfl
    exact { hi with crc := fun _ => crc }

theorem Invariants.countTicks {s : State} (hi : Invariants s) (n : Nat) :
    Invariants (countTicks n s) :=
  { hi with timer := Nat.lt_of_le_of_lt (Nat.sub_le s.timer n) hi.timer }

theorem Invariants.applyReset {s : State} (hi : Invariants s) : Invariants (applyReset s) where
  legal := hi.legal
  issued := fun h => absurd rfl h
  txen := by simp
  flow := by simp
  attempt := fun h => absurd rfl h
  crc := fun h => by cases h
  txqSuffix := List.suffix_refl []
  txqEmpty := fun _ => rfl
  noResult := fun h => absurd rfl h
  frame := fun h => absurd rfl h
  timer := by simp
  status := by simp
  words := by simp
  preview := by simp
  fresh := fun _ => rfl

/-! ### The engine's moves -/

section
variable {s : State} (hi : Invariants s)
include hi

/-- `start_attempt` (R203) out of a state in which nothing is being sent, for a command whose attempt,
frame and result are as (I3), (I6) and R26 ask. -/
theorem Invariants.startAttempt (h₁ : s.fsm ≠ .preTx) (h₂ : s.fsm ≠ .txSend) {m : Cmd}
    {frame : List Byte} {attempt : Nat} {issued resValid : Bool} (hissued : issued = true)
    (hattempt : 1 ≤ attempt ∧ attempt ≤ s.cfg.attempts) (hresult : resValid = false)
    (hframe : frame = buildRequest s.cfg m) :
    Invariants (startAttempt { s with
      cmd := m, txframe := frame, attempt := attempt, resValid := resValid, issued := issued }) where
  legal := hi.legal
  issued := fun _ => hissued
  txen := by simp
  flow := by simp [hi.flow_off h₁ h₂]
  attempt := fun _ => hattempt
  crc := fun h => by cases h
  txqSuffix := by
    simp only [startAttempt_txq, hi.txqEmpty h₂]
    exact List.nil_suffix
  txqEmpty := fun _ => hi.txqEmpty h₂
  noResult := fun _ => hresult
  frame := fun _ => hframe
  timer := cfgLegal_settle_lt hi.legal
  status := hi.status
  words := hi.words
  preview := hi.preview
  fresh := fun h => by simp [hissued] at h

theorem Invariants.issue (idle : s.fsm = .idle) (m : Cmd) :
    Invariants (Machine.startAttempt (latchCommand m s)) :=
  hi.startAttempt (by simp [idle]) (by simp [idle]) rfl
    ⟨Nat.le_refl 1, cfgLegal_attempts_pos hi.legal⟩ rfl rfl

theorem Invariants.restart (waiting : s.fsm = .backoff) : Invariants (Machine.startAttempt s) :=
  have busy : s.fsm ≠ .idle := by simp [waiting]
  hi.startAttempt (by simp [waiting]) (by simp [waiting]) (hi.issued busy) (hi.attempt busy)
    (hi.noResult busy) (hi.frame busy)

/-- Before the first ISSUE the engine is in IDLE and has no result, so a new configuration meets no
condition on an old one. -/
theorem Invariants.configure {c : Cfg} (legal : cfgLegal c = true) (early : s.issued = false) :
    Invariants { s with cfg := c } := by
  have idle : s.fsm = .idle := by
    by_contra busy
    simp [hi.issued busy] at early
  have off := hi.txen_off (by simp [idle]) (by simp [idle])
  have noPreview := hi.fresh early
  exact { hi with
    legal := legal
    flow := by simp [hi.flow, off]
    attempt := fun busy => absurd idle busy
    frame := fun busy => absurd idle busy
    preview := by simp [noPreview] }

theorem Invariants.settle (settling : s.fsm = .preTx) :
    Invariants { s with txq := s.txframe, fsm := .txSend } :=
  have busy : s.fsm ≠ .idle := by simp [settling]
  { hi with
    issued := fun _ => hi.issued busy
    txen := by simp [hi.txen, settling]
    attempt := fun _ => hi.attempt busy
    crc := fun h => by cases h
    txqSuffix := List.suffix_refl _
    txqEmpty := fun h => absurd rfl h
    noResult := fun _ => hi.noResult busy
    frame := fun _ => hi.frame busy }

theorem Invariants.release (sending : s.fsm = .txSend) (empty : s.txq = []) :
    Invariants { s with
      txen := false
      flow := if s.cfg.hasFlow then false else s.flow
      timer := postTxGuardUs s.cfg
      fsm := .postTx } :=
  have busy : s.fsm ≠ .idle := by simp [sending]
  { hi with
    issued := fun _ => hi.issued busy
    txen := by simp
    flow := by cases hasFlow : s.cfg.hasFlow <;> simp [hi.flow, hasFlow]
    attempt := fun _ => hi.attempt busy
    crc := fun h => by cases h
    txqEmpty := fun _ => empty
    noResult := fun _ => hi.noResult busy
    frame := fun _ => hi.frame busy
    timer := cfgLegal_guard_lt hi.legal }

theorem Invariants.listen (guarding : s.fsm = .postTx) :
    Invariants { s with
      acc := []
      crc := crcInit
      timer := s.cfg.rxTimeoutUs
      fsm := .listen
      lateConsume := false } :=
  have busy : s.fsm ≠ .idle := by simp [guarding]
  { hi with
    issued := fun _ => hi.issued busy
    txen := by simp [hi.txen, guarding]
    attempt := fun _ => hi.attempt busy
    crc := fun _ => rfl
    txqEmpty := fun _ => hi.txqEmpty (by simp [guarding])
    noResult := fun _ => hi.noResult busy
    frame := fun _ => hi.frame busy
    timer := cfgLegal_rxTimeout_lt hi.legal }

theorem Invariants.retry (listening : s.fsm = .listen) (left : s.attempt < s.cfg.attempts)
    (k : ErrKind) : Invariants (retryAfter k s) :=
  have busy : s.fsm ≠ .idle := by simp [listening]
  { hi with
    issued := fun _ => hi.issued busy
    txen := by simp [hi.txen, listening]
    attempt := fun _ => ⟨Nat.le_add_left 1 s.attempt, left⟩
    crc := fun h => by cases h
    txqEmpty := fun _ => hi.txqEmpty (by simp [listening])
    noResult := fun _ => hi.noResult busy
    frame := fun _ => hi.frame busy
    timer := cfgLegal_backoff_lt hi.legal }

/-- A transaction ends out of LISTEN with any result of the shape R23 and R224 ask for. -/
theorem Invariants.finish (listening : s.fsm = .listen) {status : Status} {words : List Word}
    {preview : List Byte} {diag : List DiagRecord} (hstatus : status ≠ .invalidChannel)
    (hwords : words.length ≤ 127) (hpreview : preview.length ≤ s.cfg.previewBytes) :
    Invariants { s with
      diag := diag, resStatus := status, resWords := words, resPreview := preview
      resValid := true, fsm := .idle } :=
  { hi with
    issued := fun h => absurd rfl h
    txen := by simp [hi.txen, listening]
    attempt := fun h => absurd rfl h
    crc := fun h => by cases h
    txqEmpty := fun _ => hi.txqEmpty (by simp [listening])
    noResult := fun h => absurd rfl h
    frame := fun h => absurd rfl h
    status := hstatus
    words := hwords
    preview := hpreview
    fresh := fun h => by simp [hi.issued (by simp [listening])] at h }

theorem Invariants.complete (listening : s.fsm = .listen) {words : List Word}
    (fits : words.length ≤ 127) : Invariants (completeOk words s) := by
  refine hi.finish (diag := s.diag) listening (by decide) ?_ (Nat.zero_le _)
  split
  · exact fits
  · exact Nat.zero_le 127

theorem Invariants.giveUp (listening : s.fsm = .listen) (k : ErrKind) :
    Invariants (finalFailure k s) :=
  hi.finish listening (statusOf_ne_invalidChannel k) (Nat.zero_le 127) (List.length_take_le _ _)

theorem Invariants.engineMove {e : Event} {t : State} (h : EngineMove e s t) : Invariants t := by
  cases h with
  | stay => exact hi
  | issue m _ idle => exact hi.issue idle m
  | configure c _ legal early => exact hi.configure legal early
  | settle settling _ => exact hi.settle settling
  | release sending empty => exact hi.release sending empty
  | listen guarding _ => exact hi.listen guarding
  | complete words listening fits => exact hi.complete listening fits
  | retry k listening left => exact hi.retry listening left k
  | giveUp k listening _ => exact hi.giveUp listening k
  | restart waiting _ => exact hi.restart waiting

end

/-- Settles O44: a step does nothing, is a reset, or passes four stages that each keep the
invariants. -/
theorem everyStepKeepsTheInvariants : Obligations.EveryStepKeepsTheInvariants := by
  intro s t hi h
  rcases step_cases h with rfl | ⟨rest, rfl⟩ | ⟨e, rest, -, s₁, s₂, s₃, h₁, h₂, h₃, rfl⟩
  · exact hi
  · exact Invariants.applyReset (s := { s with agenda := rest }) { hi with }
  · exact (((hi.sampled h₁).taken h₂).engineMove h₃).countTicks e.ticks

/-- Settles O43. -/
theorem invariantsHoldAtReset : Obligations.InvariantsHoldAtReset where
  legal := by decide
  issued := fun h => absurd rfl h
  txen := by decide
  flow := rfl
  attempt := fun h => absurd rfl h
  crc := fun h => by cases h
  txqSuffix := List.suffix_refl []
  txqEmpty := fun _ => rfl
  noResult := fun h => absurd rfl h
  frame := fun h => absurd rfl h
  timer := by decide
  status := by decide
  words := by decide
  preview := by decide
  fresh := fun _ => rfl

end Sys2Proof.Machine
end

section
/-! The account of the wire (R48 (I7), R228), stage by stage. -/

namespace Sys2Proof.Machine

theorem copies_succ (n : Nat) (frame : List Byte) : copies (n + 1) frame = copies n frame ++ frame := by
  simp [copies, List.replicate_succ']

/-- The copy that has just been completed is the attempt's own. -/
theorem copies_pred {n : Nat} (h : 1 ≤ n) (frame : List Byte) :
    copies (n - 1) frame ++ frame = copies n frame := by
  rw [← copies_succ, Nat.sub_add_cancel h]

section
variable {before : List Byte} {s u : State}

theorem WireAccount.sampled {rest : List Event} {added : List Byte} (hw : WireAccount before s)
    (h : Sampled rest added s u) : WireAccount before u := by
  cases h with
  | queued _ _ => exact { hw with }
  | sent _ _ b queue sending front =>
    obtain ⟨part, hwire, hpart, -⟩ := hw.shape
    have shape : s.wireOut ++ [b] = before ++ copies (fullCopies s) s.txframe ++ (part ++ [b]) := by
      rw [hwire, List.append_assoc _ part]
    have left : part ++ [b] ++ queue = s.txframe := by
      rw [List.append_assoc, ← hpart sending, front]; rfl
    exact { hw with shape := ⟨part ++ [b], shape, fun _ => left, fun h => absurd sending h⟩ }

theorem WireAccount.taken (hw : WireAccount before s) (h : Taken s u) : WireAccount before u := by
  cases h with
  | none => exact hw
  | byte b rest _ _ => exact { hw with }

theorem WireAccount.countTicks (hw : WireAccount before s) (n : Nat) :
    WireAccount before (countTicks n s) := { hw with }

/-- Outside TX_SEND the wire holds whole copies only. -/
theorem WireAccount.wire_eq (hw : WireAccount before s) (h : s.fsm ≠ .txSend) :
    s.wireOut = before ++ copies (fullCopies s) s.txframe := by
  obtain ⟨part, hwire, -, hpart⟩ := hw.shape
  rw [hwire, hpart h, List.append_nil]

/-- A move from one state outside TX_SEND to another that puts nothing on the wire and counts as many
copies as before. -/
theorem WireAccount.move (hw : WireAccount before s) (hs : s.fsm ≠ .txSend) (hu : u.fsm ≠ .txSend)
    (issued : u.issued = s.issued) (cfg : u.cfg = s.cfg)
    (attempt : 1 ≤ u.attempt ∧ u.attempt ≤ s.cfg.attempts) (frame : u.txframe = s.txframe)
    (wire : u.wireOut = s.wireOut) (full : fullCopies u = fullCopies s) : WireAccount before u where
  issued := issued.trans hw.issued
  attemptPos := attempt.1
  attemptBound := cfg ▸ attempt.2
  shape := by
    refine ⟨[], ?_, fun h => absurd h hu, fun _ => rfl⟩
    rw [wire, full, frame, List.append_nil, hw.wire_eq hs]

theorem WireAccount.engineMove {e : Event} (hw : WireAccount before s) (busy : s.fsm ≠ .idle)
    (h : EngineMove e s u) : WireAccount before u := by
  have same : 1 ≤ s.attempt ∧ s.attempt ≤ s.cfg.attempts := ⟨hw.attemptPos, hw.attemptBound⟩
  cases h with
  | stay => exact hw
  | issue m _ idle => exact absurd idle busy
  | configure c _ _ early => simp [hw.issued] at early
  | settle settling _ =>
    have shape := hw.wire_eq (by simp [settling])
    refine { hw with shape := ⟨[], ?_, fun _ => rfl, fun _ => rfl⟩ }
    rw [List.append_nil, shape]
    simp [fullCopies, settling]
  | release sending empty =>
    obtain ⟨part, hwire, hpart, -⟩ := hw.shape
    have whole : part = s.txframe := by rw [← hpart sending, empty, List.append_nil]
    refine { hw with shape := ⟨[], ?_, fun h => (by cases h), fun _ => rfl⟩ }
    rw [hwire, whole, List.append_assoc, List.append_nil]
    simp only [fullCopies, sending]
    rw [copies_pred hw.attemptPos]
  | listen guarding _ =>
    exact hw.move (by simp [guarding]) (by simp) rfl rfl same rfl rfl (by simp [fullCopies, guarding])
  | retry k listening left =>
    exact hw.move (by simp [listening]) (by simp) rfl rfl ⟨Nat.le_add_left 1 _, left⟩ rfl rfl
      (by simp [fullCopies, listening])
  | complete _ listening _ | giveUp _ listening _ =>
    exact hw.move (by simp [listening]) (by simp) rfl rfl same rfl rfl
      (by simp [fullCopies, listening])
  | restart waiting _ =>
    exact hw.move (by simp [waiting]) (by simp) rfl rfl same rfl rfl (by simp [fullCopies, waiting])

end

/-- Settles O46: the four stages of a step each keep the account. -/
theorem everyStepKeepsTheWireAccount : Obligations.EveryStepKeepsTheWireAccount := by
  intro s t e rest before hw busy ha hr h
  obtain ⟨s₁, s₂, s₃, h₁, h₂, h₃, rfl⟩ := step_stages ha hr h
  have busy₂ : s₂.fsm ≠ .idle := by rwa [h₂.fsm_eq, h₁.fsm_eq]
  exact (((hw.sampled h₁).taken h₂).engineMove busy₂ h₃).countTicks e.ticks

/-- Settles O45. -/
theorem issueStartsTheWireAccount : Obligations.IssueStartsTheWireAccount := by
  intro s p rest legal hf ha hk
  obtain ⟨m, hm⟩ := issuePort_idle (s := { s with agenda := rest }) hf hk
  refine ⟨_, (step_agenda_cons ha).trans hm, ?_, rfl, rfl⟩
  exact {
    issued := rfl
    attemptPos := Nat.le_refl 1
    attemptBound := cfgLegal_attempts_pos legal
    shape := ⟨[], by simp [fullCopies, copies], fun h => (by cases h), fun _ => rfl⟩ }

end Sys2Proof.Machine
end

section
/-! What the invariants and the stages say of every step: the constant parts of the state, the queue, the
wire, the diagnostics and the delays. -/

namespace Sys2Proof.Machine

/-! ### The configuration, the command and the result -/

/-- The engine leaves the configuration alone, unless the event presents a legal one before the first
ISSUE (R40, R43). -/
theorem EngineMove.cfg_cases {e : Event} {s u : State} (h : EngineMove e s u) :
    u.cfg = s.cfg ∨ s.issued = false ∧ cfgLegal u.cfg = true ∧ e = .config u.cfg := by
  cases h with
  | configure c presented legal early => exact .inr ⟨early, legal, presented⟩
  | _ => exact .inl rfl

/-- Settles O42. -/
theorem configurationIsConstant : Obligations.ConfigurationIsConstant := by
  intro s t h
  rcases step_cases h with rfl | ⟨rest, rfl⟩ | ⟨e, rest, ha, s₁, s₂, s₃, h₁, h₂, h₃, rfl⟩
  · exact .inl rfl
  · exact .inl rfl
  rcases h₃.cfg_cases with hc | ⟨early, legal, presented⟩
  · exact .inl (by rw [countTicks, hc, h₂.cfg_eq, h₁.cfg_eq])
  · rw [h₂.issued_eq, h₁.issued_eq] at early
    exact .inr ⟨early, legal, rest, presented ▸ ha⟩

/-- In IDLE the engine waits for an ISSUE: no other move leaves IDLE or touches the result. -/
theorem EngineMove.idle_result {e : Event} {s u : State} (h : EngineMove e s u)
    (idle : s.fsm = .idle) (none : e.offersCommand = false) :
    u.fsm = .idle ∧ u.resValid = s.resValid ∧ u.resStatus = s.resStatus ∧ u.resWords = s.resWords
      ∧ u.resPreview = s.resPreview := by
  cases h with
  | stay => exact ⟨idle, rfl, rfl, rfl, rfl⟩
  | configure _ _ _ _ => exact ⟨idle, rfl, rfl, rfl, rfl⟩
  | issue _ offered _ => simp [none] at offered
  | settle state _ | release state _ | listen state _ | complete _ state _ | retry _ state _
  | giveUp _ state _ | restart state _ => simp [state] at idle

/-- Settles O49. -/
theorem resultStaysUntilTheNextIssue : Obligations.ResultStaysUntilTheNextIssue := by
  intro s t e rest idle ha none hr h
  obtain ⟨s₁, s₂, s₃, h₁, h₂, h₃, rfl⟩ := step_stages ha hr h
  have idle₂ : s₂.fsm = .idle := by rw [h₂.fsm_eq, h₁.fsm_eq, idle]
  obtain ⟨valid₁, status₁, words₁, preview₁⟩ := h₁.result_eq
  obtain ⟨valid₂, status₂, words₂, preview₂⟩ := h₂.result_eq
  obtain ⟨fsm, valid, status, words, preview⟩ := h₃.idle_result idle₂ none
  exact ⟨fsm, valid.trans (valid₂.trans valid₁), status.trans (status₂.trans status₁),
    words.trans (words₂.trans words₁), preview.trans (preview₂.trans preview₁)⟩

/-- Only an ISSUE in IDLE latches a command and builds its frame (R26, R204). -/
theorem EngineMove.command_eq {e : Event} {s u : State} (h : EngineMove e s u)
    (busy : s.fsm ≠ .idle) : u.cmd = s.cmd ∧ u.txframe = s.txframe := by
  cases h with
  | issue _ _ idle => exact absurd idle busy
  | _ => exact ⟨rfl, rfl⟩

/-- Settles O50. -/
theorem commandInFlightIsConstant : Obligations.CommandInFlightIsConstant := by
  intro s t e rest busy ha hr h
  obtain ⟨s₁, s₂, s₃, h₁, h₂, h₃, rfl⟩ := step_stages ha hr h
  have busy₂ : s₂.fsm ≠ .idle := by rwa [h₂.fsm_eq, h₁.fsm_eq]
  obtain ⟨cmd, frame⟩ := h₃.command_eq busy₂
  exact ⟨by rw [countTicks, cmd, h₂.cmd_eq, h₁.cmd_eq],
    by rw [countTicks, frame, h₂.txframe_eq, h₁.txframe_eq]⟩

/-! ### Bytes received and bytes sent -/

/-- With the flush off the engine leaves the queue alone, and in LISTEN the bytes taken. -/
theorem EngineMove.queue_eq {e : Event} {s u : State} (h : EngineMove e s u)
    (noFlush : s.cfg.flushRxBeforeTx = false) :
    u.rxfifo = s.rxfifo ∧ (s.fsm = .listen → u.acc = s.acc) := by
  cases h with
  | issue _ _ _ => simp [noFlush]
  | restart _ _ => simp [noFlush]
  | listen guarding _ => simp [guarding]
  | _ => exact ⟨rfl, fun _ => rfl⟩

/-- Settles O51: the byte that arrives joins the queue in the first stage, a byte is taken in the
second only, and with the flush off the engine drops none. -/
theorem noReceivedByteIsLost : Obligations.NoReceivedByteIsLost := by
  intro s t e rest noFlush ha hr h
  obtain ⟨s₁, s₂, s₃, h₁, h₂, h₃, rfl⟩ := step_stages ha hr h
  have noFlush₂ : s₂.cfg.flushRxBeforeTx = false := by rw [h₂.cfg_eq, h₁.cfg_eq, noFlush]
  obtain ⟨queue, acc⟩ := h₃.queue_eq noFlush₂
  rw [h₂.fsm_eq, h₁.fsm_eq] at acc
  cases h₂ with
  | none =>
    exact .inl ⟨queue.trans h₁.rxfifo_eq, fun listening => (acc listening).trans h₁.acc_eq⟩
  | byte b waiting listening front =>
    rw [h₁.fsm_eq] at listening
    rw [h₁.rxfifo_eq] at front
    refine .inr ⟨listening, b, waiting, front, queue, (acc listening).trans ?_⟩
    rw [takeByte_acc, h₁.acc_eq]

/-- Settles O52: bytes go to the wire in the first stage only, where (I1) gives transmit-enable. -/
theorem bytesReachTheWireOnlyWhileSending : Obligations.BytesReachTheWireOnlyWhileSending := by
  intro s t e rest hi ha hr h changed
  obtain ⟨s₁, s₂, s₃, h₁, h₂, h₃, rfl⟩ := step_stages ha hr h
  have wire : (countTicks e.ticks s₃).wireOut = s₁.wireOut := h₃.wireOut_eq.trans h₂.wireOut_eq
  rw [wire] at changed ⊢
  cases h₁ with
  | queued _ _ => exact absurd rfl changed
  | sent _ _ b q sending front => exact ⟨sending, hi.txen.mpr (.inr sending), b, q, front, rfl⟩

/-! ### Diagnostics -/

/-- Only a failed attempt writes a diagnostic record, one (R32, R222). -/
theorem EngineMove.diag_cases {e : Event} {s u : State} (h : EngineMove e s u) :
    u.diag = s.diag
    ∨ (∃ k, u.diag = s.diag ++ [⟨.debug, k, s.attempt⟩] ∧ s.attempt < s.cfg.attempts
        ∧ u.attempt = s.attempt + 1 ∧ u.fsm = .backoff)
    ∨ (∃ k, u.diag = s.diag ++ [⟨.warn, k, s.attempt⟩] ∧ s.cfg.attempts ≤ s.attempt
        ∧ u.fsm = .idle ∧ u.resValid = true ∧ u.resStatus = statusOf k) := by
  cases h with
  | retry k _ left => exact .inr (.inl ⟨k, rfl, left, rfl, rfl⟩)
  | giveUp k _ final => exact .inr (.inr ⟨k, rfl, final, rfl, rfl, rfl⟩)
  | _ => exact .inl rfl

/-- Settles O53. -/
theorem diagnosticsFollowFailures : Obligations.DiagnosticsFollowFailures := by
  intro s t e rest ha hr h
  obtain ⟨s₁, s₂, s₃, h₁, h₂, h₃, rfl⟩ := step_stages ha hr h
  have records := h₃.diag_cases
  rw [h₂.diag_eq, h₁.diag_eq, h₂.attempt_eq, h₁.attempt_eq, h₂.cfg_eq, h₁.cfg_eq] at records
  exact records

/-! ### Delays -/

/-- Before its delay is over a timed state is not left, and its timer not loaded again (R312). -/
theorem EngineMove.timed_stays {e : Event} {s u : State} (h : EngineMove e s u)
    (timed : s.fsm.timed = true) (running : 0 < s.timer) : u.fsm = s.fsm ∧ u.timer = s.timer := by
  cases h with
  | stay => exact ⟨rfl, rfl⟩
  | configure _ _ _ _ => exact ⟨rfl, rfl⟩
  | settle _ due | listen _ due | restart _ due => exact absurd due (Nat.ne_of_gt running)
  | issue _ _ state | release state _ | complete _ state _ | retry _ state _
  | giveUp _ state _ => simp [state, Fsm.timed] at timed

/-- One step inside a delay: the engine stays, and the timer goes down by the event's TICKs. -/
theorem step_timed {s t : State} {e : Event} {rest : List Event} (ha : s.agenda = e :: rest)
    (hr : e.resets = false) (h : step s = .next t) (timed : s.fsm.timed = true)
    (running : 0 < s.timer) : t.fsm = s.fsm ∧ t.timer = s.timer - e.ticks := by
  obtain ⟨s₁, s₂, s₃, h₁, h₂, h₃, rfl⟩ := step_stages ha hr h
  have fsm : s₂.fsm = s.fsm := h₂.fsm_eq.trans h₁.fsm_eq
  have timer : s₂.timer = s.timer := h₂.timer_eq.trans h₁.timer_eq
  obtain ⟨fsm₃, timer₃⟩ := h₃.timed_stays (fsm ▸ timed) (timer ▸ running)
  exact ⟨fsm₃.trans fsm, by rw [countTicks, timer₃, timer]⟩

/-- A step that is no reset leaves what was behind its event. -/
theorem step_agenda_eq {s t : State} {e : Event} {rest : List Event} (ha : s.agenda = e :: rest)
    (hr : e.resets = false) (h : step s = .next t) : t.agenda = rest := by
  obtain ⟨s₁, s₂, s₃, h₁, h₂, h₃, rfl⟩ := step_stages ha hr h
  rw [countTicks, h₃.agenda_eq, h₂.agenda_eq, h₁.agenda_eq]

theorem ticksOf_cons (e : Event) (events : List Event) :
    ticksOf (e :: events) = e.ticks + ticksOf events := by
  simp [ticksOf]

/-- Settles O54, by induction on the number of steps. -/
theorem delaysAreLowerBounds : Obligations.DelaysAreLowerBounds := by
  intro n
  induction n with
  | zero =>
    intro s t _ _ _ h
    cases h
    exact ⟨rfl, rfl⟩
  | succ n ih =>
    intro s t timed noReset running h
    obtain ⟨u, hstep, hrun⟩ := next_of_runSteps h
    cases ha : s.agenda with
    | nil =>
      cases (step_agenda_nil ha).symm.trans hstep
      have idle := ih s t timed (by simp [ha]) (by simpa [ha] using running) hrun
      simpa [ha] using idle
    | cons e rest =>
      rw [ha, List.take_succ_cons, List.all_cons, Bool.and_eq_true, Bool.not_eq_true'] at noReset
      rw [ha, List.take_succ_cons, ticksOf_cons] at running
      obtain ⟨hr, noReset⟩ := noReset
      obtain ⟨fsm, timer⟩ := step_timed ha hr hstep timed (by omega)
      have agenda := step_agenda_eq ha hr hstep
      obtain ⟨fsm', timer'⟩ :=
        ih u t (fsm ▸ timed) (agenda ▸ noReset) (by rw [agenda]; omega) hrun
      rw [agenda] at timer'
      refine ⟨fsm'.trans fsm, ?_⟩
      rw [List.take_succ_cons, ticksOf_cons]
      omega

end Sys2Proof.Machine
end

section
/-! Instructions placed and presented, the single events, reset, configuration and the ports. -/

namespace Sys2Proof.Machine

/-! ### The command port -/

/-- Settles O7. -/
theorem portInstructionEncodesBuiltFrame : Obligations.PortInstructionEncodesBuiltFrame := by
  intro c p
  have presented {k : CmdKind} (h : p.kind = kindCode k) :
      ∃ i, portInstr c p = some i ∧ i.kind = k :=
    ⟨_, portInstr_of_kindCode c h, presentedInstr_kind c p k⟩
  refine ⟨portInstr_none c, presented (k := .read), presented (k := .write),
    presented (k := .wmask), ?_⟩
  intro i hi
  obtain ⟨k, rfl⟩ := portInstr_some hi
  refine ⟨presentedInstr_direction c p k, presentedInstr_wellFormed c p k, ?_⟩
  rw [presentedInstr_encode, presentedInstr_kind, presentedCmd]

/-- Settles O24. -/
theorem stepRunsThePresentedRequest : Obligations.StepRunsThePresentedRequest := by
  intro s bytes i p rest _ _ hp ha
  rw [step_agenda_cons ha]
  exact issuePort_of_portOf hp { s with agenda := rest }

/-! ### A placed table word -/

theorem decodeTable_some {c : Cfg} {nbits w : Nat} {i : Instr} (h : decodeTable c nbits w = some i) :
    decode c (tableDirection nbits) (tableFrame nbits w) = .ok i := by
  unfold decodeTable at h
  split at h
  · rename_i hi
    cases h
    exact hi
  · cases h

/-- A request has its inputs on the command port (R101). -/
theorem portOf_of_sent (p : CmdPort) {i : Instr} (h : i.direction = .sent) :
    ∃ q, portOf p i = some q := by
  cases i with
  | reqRead _ _ _ _ _ => exact ⟨_, rfl⟩
  | reqWrite _ _ _ _ _ => exact ⟨_, rfl⟩
  | reqWmask _ _ _ _ _ _ => exact ⟨_, rfl⟩
  | rspRead _ _ => cases h
  | rspWrite _ _ => cases h
  | rspWmask _ _ => cases h

theorem withFetchWord_sent {s : State} {nbits w : Nat} {i : Instr}
    (h : decodeTable s.cfg nbits w = some i) (hd : i.direction = .sent) :
    s.withFetchWord nbits w = loadRequest i s := by
  simp [State.withFetchWord, loadWord, decodeTable_some h, hd]

theorem withFetchWord_received {s : State} {nbits w : Nat} {i : Instr}
    (h : decodeTable s.cfg nbits w = some i) (hd : i.direction = .received) :
    s.withFetchWord nbits w = loadResponse i.kind (tableFrame nbits w) s := by
  simp [State.withFetchWord, loadWord, decodeTable_some h, hd]

/-- A placed request is what the next step runs. -/
theorem step_loadRequest {s : State} {i : Instr} {p : CmdPort} (hp : portOf s.port i = some p) :
    step (loadRequest i s) = exec i { s with port := p } := by
  simp only [loadRequest, hp, step, perform]
  exact issuePort_of_portOf hp s

/-- RX_CONSUME of the byte that completes a frame runs the frame (R209). -/
theorem rxConsume_completes {s : State} {b : Byte} {waiting : List Byte} {i : Instr}
    (hf : s.fsm = .listen) (hq : s.rxfifo = b :: waiting)
    (hi : decodeResponse s.cfg (s.acc ++ [b]) = .ok i) :
    rxConsume s = exec i (takeByte b waiting s) := by
  simp [rxConsume, hf, hq, decode, hi]

/-- A frame that decodes is its last byte behind the others. -/
theorem dropLast_append_getLastD {c : Cfg} {frame : List Byte} {i : Instr}
    (h : decodeResponse c frame = .ok i) : frame.dropLast ++ [frame.getLastD 0] = frame := by
  have nonempty : frame ≠ [] := by
    rintro rfl
    cases h
  rw [List.getLastD_eq_getLast?, List.getLast?_eq_some_getLast nonempty]
  exact List.dropLast_append_getLast nonempty

/-- A placed response is what the next step runs, at the state with its last byte taken. -/
theorem step_loadResponse {s : State} {frame : List Byte} {i : Instr}
    (h : decodeResponse s.cfg frame = .ok i) :
    ∃ t, step (loadResponse i.kind frame s) = exec i t ∧ t.fsm = .listen ∧ t.cmd.kind = i.kind
      ∧ t.acc = frame ∧ t.crc = crc16 t.acc ∧ t.cfg = s.cfg ∧ t.rxfifo = s.rxfifo := by
  have whole := dropLast_append_getLastD h
  have hstep : step (loadResponse i.kind frame s)
      = rxConsume { loadResponse i.kind frame s with agenda := s.agenda } := rfl
  rw [← whole] at h
  refine ⟨_, hstep.trans (rxConsume_completes rfl rfl h), rfl, rfl, whole, ?_, rfl, rfl⟩
  exact (crc16_append frame.dropLast [frame.getLastD 0]).symm

/-- Settles O26. -/
theorem placedWordRunsNext : Obligations.PlacedWordRunsNext := by
  intro s nbits w i h
  cases hd : i.direction with
  | sent =>
    obtain ⟨p, hp⟩ := portOf_of_sent s.port hd
    rw [withFetchWord_sent h hd]
    exact ⟨_, step_loadRequest hp, fun _ => ⟨p, hp, rfl⟩, fun h => by cases h⟩
  | received =>
    have hi := decodeTable_some h
    rw [← decode_direction hi, hd] at hi
    obtain ⟨t, hstep, hf, hk, hacc, hcrc, hcfg, hq⟩ := step_loadResponse hi
    rw [withFetchWord_received h hd, encode_of_decodeResponse hi]
    exact ⟨t, hstep, fun h => (by cases h), fun _ => ⟨hf, hk, hacc, hcrc, hcfg, hq⟩⟩

/-! ### Single events -/

/-- Settles O28. -/
theorem tickCountsDown : Obligations.TickCountsDown := by
  intro s rest ha
  have down : s.timer - 1 = if 0 < s.timer then s.timer - 1 else s.timer := by
    split <;> omega
  rw [step_agenda_cons ha, ← down]
  rfl

/-- Settles O29. -/
theorem receivedByteIsQueued : Obligations.ReceivedByteIsQueued := by
  intro s b rest ha
  rw [step_agenda_cons ha]
  rfl

/-- Settles O30: WIRE_TX is enabled in TX_SEND with a byte left, and there takes the head of `txq`. -/
theorem wireTakesTheNextByte : Obligations.WireTakesTheNextByte := by
  intro s rest ha
  rw [step_agenda_cons ha]
  refine ⟨fun b q hf hq => ?_, fun disabled => ?_⟩
  · simp [perform, wireTx, hf, hq]
  · rcases wireTx_cases { s with agenda := rest } with h | ⟨b, q, hf, hq, -⟩
    · rw [perform, h]
    · exact absurd ⟨hf, by simp [show s.txq = b :: q from hq]⟩ disabled

/-! ### Reset and configuration -/

/-- Settles O38. -/
theorem resetValues : Obligations.ResetValues :=
  ⟨rfl, rfl, rfl, rfl, rfl, rfl, rfl, rfl, rfl, rfl, rfl, rfl, rfl, rfl, rfl, rfl, rfl⟩

/-- Settles O40: legality is tested first, then whether a command has been issued (log 12). -/
theorem configurationIsTakenOnlyBeforeTheFirstIssue :
    Obligations.ConfigurationIsTakenOnlyBeforeTheFirstIssue := by
  intro s c rest ha
  rw [step_agenda_cons ha, perform, presentConfig]
  refine ⟨fun legal early => ?_, fun illegal => ?_, fun legal late => ?_⟩
  · simp [legal, early]
  · simp [illegal]
  · simp [legal, late]

/-! ### The output ports -/

theorem txValid_iff (s : State) : txValid s = true ↔ s.fsm = .txSend ∧ s.txq ≠ [] := by
  simp [txValid]

theorem txData_of_sending {s : State} {b : Byte} {q : List Byte} (hf : s.fsm = .txSend)
    (hq : s.txq = b :: q) : txData s = some b := by
  have valid : txValid s = true := (txValid_iff s).mpr ⟨hf, by simp [hq]⟩
  rw [txData, if_pos valid, hq, List.head?_cons]

/-- The diagnostic port pulses the records a step appends (R39). -/
theorem diagPulses_of_append {s t : State} {records : List DiagRecord}
    (h : t.diag = s.diag ++ records) : diagPulses s t = records := by
  rw [diagPulses, h, List.drop_left]

/-- Settles O58. -/
theorem outputPortsShowTheState : Obligations.OutputPortsShowTheState := by
  refine ⟨fun s => ⟨?_, ?_, rfl, rfl, fun j w h => ?_, fun j h => ?_, fun j b h => ?_, fun j h => ?_,
    txValid_iff s, fun b q => txData_of_sending, ?_⟩, fun s t records => diagPulses_of_append,
    fun n _ => ⟨rfl, rfl, rfl, rfl⟩⟩
  · exact beq_iff_eq
  · simp [cmdReady, busy, bne]
  · rw [resWordAt, List.getD_eq_getElem?_getD, h, Option.getD_some]
  · exact List.getD_eq_default _ _ h
  · rw [resPreviewAt, List.getD_eq_getElem?_getD, h, Option.getD_some]
  · exact List.getD_eq_default _ _ h
  · unfold resStatusCode
    cases s.resStatus <;> rfl

end Sys2Proof.Machine
end

section
/-! The clock cycle as a run of events (R44, R262). No atomic event reads the agenda behind it, so a run
of events is their effects one after the other; and RX_CONSUME does not read the arbitration bit, the one
thing in which the run and the cycle differ. -/

namespace Sys2Proof.Machine

/-! ### What no step reads -/

/-- The state with other events still to happen (log 4). -/
def withAgenda (agenda : List Event) (s : State) : State := { s with agenda := agenda }

/-- The state with other values of two of the model's own fields: what is still to happen and the
arbitration bit (log 4, log 13). -/
def withBooks (agenda : List Event) (late : Bool) (s : State) : State :=
  { s with agenda := agenda, lateConsume := late }

section
variable (agenda : List Event) (late : Bool) (s : State)

theorem wireTx_withAgenda : wireTx (withAgenda agenda s) = withAgenda agenda (wireTx s) := by
  by_cases hf : s.fsm = .txSend
  · cases hq : s.txq <;> simp [wireTx, withAgenda, hf, hq]
  · simp [wireTx, withAgenda, hf]

theorem settleDone_withAgenda :
    settleDone (withAgenda agenda s) = withAgenda agenda (settleDone s) := by
  by_cases h : s.fsm = .preTx ∧ s.timer = 0 <;> simp [settleDone, withAgenda, h]

theorem txDone_withAgenda : txDone (withAgenda agenda s) = withAgenda agenda (txDone s) := by
  by_cases h : s.fsm = .txSend ∧ s.txq = [] <;> simp [txDone, withAgenda, h]

theorem guardDone_withAgenda :
    guardDone (withAgenda agenda s) = withAgenda agenda (guardDone s) := by
  by_cases h : s.fsm = .postTx ∧ s.timer = 0 <;> simp [guardDone, withAgenda, h]

theorem backoffDone_withAgenda :
    backoffDone (withAgenda agenda s) = withAgenda agenda (backoffDone s) := by
  by_cases h : s.fsm = .backoff ∧ s.timer = 0 <;> simp [backoffDone, withAgenda, startAttempt, h]

theorem issueCommand_withAgenda (m : Cmd) :
    issueCommand m (withAgenda agenda s) = withAgenda agenda (issueCommand m s) := by
  by_cases h : s.fsm = .idle
  · rw [issueCommand_idle m h, issueCommand_idle (s := withAgenda agenda s) m h]; rfl
  · rw [issueCommand_busy m h, issueCommand_busy (s := withAgenda agenda s) m h]

theorem attemptFailed_withBooks (k : ErrKind) :
    attemptFailed k (withBooks agenda late s) = withBooks agenda late (attemptFailed k s) := by
  rcases Nat.lt_or_ge s.attempt s.cfg.attempts with h | h
  · rw [attemptFailed_retry k h, attemptFailed_retry (s := withBooks agenda late s) k h]; rfl
  · rw [attemptFailed_final k h, attemptFailed_final (s := withBooks agenda late s) k h]; rfl

theorem rxTimeout_withBooks :
    rxTimeout (withBooks agenda late s) = withBooks agenda late (rxTimeout s) := by
  by_cases h : s.fsm = .listen ∧ s.timer = 0
  · have h' : (withBooks agenda late s).fsm = .listen ∧ (withBooks agenda late s).timer = 0 := h
    rw [rxTimeout, rxTimeout, if_pos h, if_pos h', attemptFailed_withBooks]
  · have h' : ¬((withBooks agenda late s).fsm = .listen ∧ (withBooks agenda late s).timer = 0) := h
    rw [rxTimeout, rxTimeout, if_neg h, if_neg h']

theorem receiveFrame_withBooks (k : CmdKind) (f : List Byte) (w : List Word) :
    receiveFrame k f w (withBooks agenda late s)
      = withBooks agenda late (receiveFrame k f w s) := by
  by_cases h : s.fsm = .listen ∧ s.cmd.kind = k
  · have h' : (withBooks agenda late s).fsm = .listen ∧ (withBooks agenda late s).cmd.kind = k := h
    rw [receiveFrame, receiveFrame, if_pos h, if_pos h']
    cases crcValid f
    · exact attemptFailed_withBooks agenda late s .crcMismatch
    · rfl
  · have h' : ¬((withBooks agenda late s).fsm = .listen ∧ (withBooks agenda late s).cmd.kind = k) := h
    rw [receiveFrame, receiveFrame, if_neg h, if_neg h']

end

/-- RX_CONSUME reads neither what is still to happen nor the arbitration bit. -/
theorem rxConsume_withBooks (s : State) :
    ∃ u, ∀ agenda late, rxConsume (withBooks agenda late s) = .next (withBooks agenda late u) := by
  by_cases hf : s.fsm = .listen
  case neg => exact ⟨s, fun a l => by simp [rxConsume, withBooks, hf]⟩
  cases hq : s.rxfifo with
  | nil => exact ⟨s, fun a l => by simp [rxConsume, withBooks, hf, hq]⟩
  | cons b rest =>
    cases hi : decodeResponse s.cfg (s.acc ++ [b]) with
    | error err =>
      exact ⟨takeByte b rest s, fun a l => by simp [rxConsume, withBooks, hf, hq, decode, hi, takeByte]⟩
    | ok i =>
      refine ⟨receiveFrame i.kind (encode s.cfg i) (wordsOf (payloadOf i)) (takeByte b rest s),
        fun a l => ?_⟩
      rw [rxConsume_completes (s := withBooks a l s) hf hq hi,
        exec_response (decodeResponse_direction hi)]
      exact congrArg _ (receiveFrame_withBooks a l (takeByte b rest s) _ _ _)

/-- An atomic event answers a next state and does not read what is still to happen. -/
theorem perform_withAgenda {e : Event} (h : e.atomic = true) (s : State) :
    ∃ u, ∀ agenda, perform e (withAgenda agenda s) = .next (withAgenda agenda u) := by
  cases e with
  | issue p =>
    by_cases hk : p.kind = 0
    · exact ⟨{ s with port := p }, fun a => issuePort_none (withAgenda a s) hk⟩
    · obtain ⟨k, hk⟩ := exists_kindCode_of_ne_zero hk
      exact ⟨_, fun a => (issuePort_of_kindCode (withAgenda a s) hk).trans
        (congrArg _ (issueCommand_withAgenda a { s with port := p } (presentedCmd p k)))⟩
  | wireTx => exact ⟨_, fun a => congrArg _ (wireTx_withAgenda a s)⟩
  | rxByte b => exact ⟨rxByte b s, fun _ => rfl⟩
  | tick => exact ⟨tick s, fun _ => rfl⟩
  | settleDone => exact ⟨_, fun a => congrArg _ (settleDone_withAgenda a s)⟩
  | txDone => exact ⟨_, fun a => congrArg _ (txDone_withAgenda a s)⟩
  | guardDone => exact ⟨_, fun a => congrArg _ (guardDone_withAgenda a s)⟩
  | rxConsume =>
    obtain ⟨u, hu⟩ := rxConsume_withBooks s
    exact ⟨withBooks s.agenda s.lateConsume u, fun a => hu a s.lateConsume⟩
  | rxTimeout =>
    exact ⟨withBooks s.agenda s.lateConsume (rxTimeout s),
      fun a => congrArg _ (rxTimeout_withBooks a s.lateConsume s)⟩
  | backoffDone => exact ⟨_, fun a => congrArg _ (backoffDone_withAgenda a s)⟩
  | reset => cases h
  | config c => cases h
  | cycle p => cases h

/-! ### A run of atomic events -/

/-- The effects of these events, one after the other. -/
def performAll : List Event → State → Host.Outcome State Fault Refusal
  | [], s => .next s
  | e :: events, s => andThen (perform e s) (performAll events)

theorem performAll_cons_of_next {e : Event} {s u : State} (events : List Event)
    (h : perform e s = .next u) : performAll (e :: events) s = performAll events u := by
  rw [performAll, h, andThen_next]

theorem performAll_singleton {e : Event} {s u : State} (h : perform e s = .next u) :
    performAll [e] s = .next u := performAll_cons_of_next [] h

theorem performAll_append_of_next {events : List Event} {s u : State} (more : List Event)
    (h : performAll events s = .next u) : performAll (events ++ more) s = performAll more u := by
  induction events generalizing s with
  | nil => cases h; rfl
  | cons e events ih =>
    cases he : perform e s with
    | fault r => cases r
    | refused r => rw [performAll, he] at h; cases h
    | next v =>
      rw [performAll_cons_of_next _ he] at h
      rw [List.cons_append, performAll_cons_of_next _ he]
      exact ih h

/-- A run of atomic events has their effects, one after the other, and leaves what was behind them. -/
theorem runSteps_atomic {events : List Event} (h : events.all Event.atomic = true) (s : State)
    (rest : List Event) : runSteps events.length (withAgenda (events ++ rest) s)
      = performAll events (withAgenda rest s) := by
  induction events generalizing s with
  | nil => rfl
  | cons e events ih =>
    rw [List.all_cons, Bool.and_eq_true] at h
    obtain ⟨u, hu⟩ := perform_withAgenda h.1 s
    have hstep : step (withAgenda (e :: (events ++ rest)) s) = .next (withAgenda (events ++ rest) u) :=
      hu (events ++ rest)
    rw [performAll_cons_of_next events (hu rest), ← ih h.2 u]
    exact runSteps_of_next hstep

/-! ### The three parts of a clock cycle -/

section
variable (p : PortIn)

/-- RX_BYTE and WIRE_TX are the wire inputs of the cycle. -/
theorem performAll_wireInputs (s : State) :
    performAll ((if p.rxValid then [.rxByte p.rxData] else []) ++ (if p.txDone then [.wireTx] else []))
      s = .next (wireInputs p s) := by
  cases hr : p.rxValid <;> cases ht : p.txDone <;> simp [wireInputs, performAll, perform, hr, ht]

theorem performAll_tick (s : State) :
    performAll (if p.tickUs then [.tick] else []) s = .next (if p.tickUs then tick s else s) := by
  cases p.tickUs <;> rfl

/-- In IDLE the step of the cycle is ISSUE of the command offered, if one is. -/
theorem performAll_mainEvent_idle {s w : State} (hf : s.fsm = .idle) :
    performAll (mainEvent p s) w = if p.cmdValid then issuePort p.cmd w else .next w := by
  obtain ⟨t, ht, -⟩ := issuePort_cases p.cmd w
  rw [mainEvent, hf]
  cases p.cmdValid with
  | false => rfl
  | true => exact (performAll_singleton (e := .issue p.cmd) ht).trans ht.symm

/-- Which of its two steps a listening engine takes is decided as R262 says, from what waits at the start
of the cycle and what arrives in it. -/
theorem consumesFirst_wireInputs (s : State) : consumesFirst (wireInputs p s) = true ↔
    (s.rxfifo ≠ [] ∨ p.rxValid = true) ∧ ¬(s.timer = 0 ∧ s.lateConsume = true) := by
  obtain ⟨_, rfl, h | ⟨b, rest, -, -, -, h⟩⟩ := wireInputs_cases p s
  all_goals
    rw [h]
    cases p.rxValid <;> simp [consumesFirst] <;> tauto

theorem internalStep_listen {w : State} (hf : w.fsm = .listen) : internalStep w =
    if consumesFirst w then rxConsume { w with lateConsume := w.timer == 0 }
    else .next (rxTimeout w) := by
  unfold internalStep
  rw [hf]

/-- Outside IDLE the step of the cycle is the internal step, but for the arbitration bit. -/
theorem performAll_mainEvent_busy {s y : State} (busy : s.fsm ≠ .idle)
    (h : internalStep (wireInputs p s) = .next y) :
    ∃ x, performAll (mainEvent p s) (wireInputs p s) = .next x
      ∧ withoutArbiter x = withoutArbiter y := by
  have one {e : Event} (he : perform e (wireInputs p s) = .next y) :
      ∃ x, performAll [e] (wireInputs p s) = .next x ∧ withoutArbiter x = withoutArbiter y :=
    ⟨y, performAll_singleton he, rfl⟩
  have fsm : (wireInputs p s).fsm = s.fsm := (wireInputs_sampled p s).fsm_eq
  unfold mainEvent
  cases hf : s.fsm with rw [hf] at fsm
  | idle => exact absurd hf busy
  | preTx => simp only [internalStep, fsm] at h; exact one h
  | txSend => simp only [internalStep, fsm] at h; exact one h
  | postTx => simp only [internalStep, fsm] at h; exact one h
  | backoff => simp only [internalStep, fsm] at h; exact one h
  | listen =>
    rw [internalStep_listen fsm] at h
    by_cases first : consumesFirst (wireInputs p s) = true
    · rw [if_pos first] at h
      simp only [if_pos ((consumesFirst_wireInputs p s).mp first)]
      obtain ⟨u, hu⟩ := rxConsume_withBooks (wireInputs p s)
      have taken := hu (wireInputs p s).agenda (wireInputs p s).lateConsume
      cases h.symm.trans (hu (wireInputs p s).agenda _)
      exact ⟨_, performAll_singleton taken, rfl⟩
    · rw [if_neg first] at h
      simp only [if_neg (fun c => first ((consumesFirst_wireInputs p s).mpr c))]
      exact one h

/-- The step of the cycle between its wire inputs and TICK, but for the arbitration bit. -/
theorem performAll_mainEvent {s t : State} (hr : p.rst = false) (h : clockCycle p s = .next t) :
    ∃ x y, performAll (mainEvent p s) (wireInputs p s) = .next x
      ∧ withoutArbiter x = withoutArbiter y ∧ t = if p.tickUs then tick y else y := by
  by_cases hf : s.fsm = .idle
  · rw [clockCycle_idle hr hf, ← performAll_mainEvent_idle p hf] at h
    cases hy : performAll (mainEvent p s) (wireInputs p s) with
    | fault r => cases r
    | refused r => rw [hy] at h; cases h
    | next y =>
      rw [hy] at h
      cases h
      exact ⟨y, y, rfl, rfl, rfl⟩
  · rw [clockCycle_busy hr hf] at h
    cases hy : internalStep (wireInputs p s) with
    | fault r => cases r
    | refused r => rw [hy] at h; cases h
    | next y =>
      rw [hy] at h
      cases h
      obtain ⟨x, hx, same⟩ := performAll_mainEvent_busy p hf hy
      exact ⟨x, y, hx, same, rfl⟩

/-- The effects of the events of a cycle are the cycle, but for the arbitration bit. -/
theorem performAll_cycleEvents {s t : State} (hr : p.rst = false) (h : clockCycle p s = .next t) :
    ∃ u, performAll (cycleEvents p s) s = .next u ∧ withoutArbiter u = withoutArbiter t := by
  obtain ⟨x, y, hx, same, rfl⟩ := performAll_mainEvent p hr h
  refine ⟨if p.tickUs then tick x else x, ?_, ?_⟩
  · rw [cycleEvents, List.append_assoc, performAll_append_of_next _ (performAll_wireInputs p s),
      performAll_append_of_next _ hx, performAll_tick]
  · cases p.tickUs
    · exact same
    · exact congrArg tick same

end

/-- Settles O55. -/
theorem clockCycleIsARunOfEvents : Obligations.ClockCycleIsARunOfEvents := by
  intro s t p rest ha hr h
  rw [step_agenda_cons ha] at h
  obtain ⟨u, hu, same⟩ := performAll_cycleEvents p hr h
  exact ⟨u, (runSteps_atomic (cycleEvents_atomic p s).1 s rest).trans hu, same⟩

end Sys2Proof.Machine
end

section
/-! What WRITE and WMASK ask of one cell of the remote register space (R63, R64, R71). -/

namespace Sys2Proof.Machine

@[simp] theorem getLsbD_applyMask (current andMask orMask : Word) (i : Nat) :
    (applyMask current andMask orMask).getLsbD i
      = ((current.getLsbD i && andMask.getLsbD i) || orMask.getLsbD i) := by
  rw [applyMask, BitVec.getLsbD_or, BitVec.getLsbD_and]

/-- Bit by bit: a bit that `or_mask` does not set is masked by `and_mask` twice instead of once. -/
@[simp] theorem applyMask_applyMask (c a o : Word) :
    applyMask (applyMask c a o) a o = applyMask c a o := by
  refine BitVec.eq_of_getLsbD_eq fun i _ => ?_
  simp only [getLsbD_applyMask]
  cases o.getLsbD i with
  | true => simp only [Bool.or_true]
  | false => simp only [Bool.or_false, Bool.and_assoc, Bool.and_self]

@[simp] theorem remoteCell_reqWrite (category index page : Byte) (value crc current : Word) :
    remoteCell (.reqWrite category index page value crc) current = some value := rfl

@[simp] theorem remoteCell_reqWmask (category index page : Byte)
    (andMask orMask crc current : Word) :
    remoteCell (.reqWmask category index page andMask orMask crc) current
      = some (applyMask current andMask orMask) := rfl

/-- Only the two writing requests ask for a value, and either asks for the same again at it (R71). -/
theorem remoteCell_again {i : Instr} {current next : Word}
    (h : remoteCell i current = some next) : remoteCell i next = some next := by
  cases i with
  | reqWrite category index page value crc => exact h
  | reqWmask category index page andMask orMask crc =>
    obtain rfl := Option.some.inj h
    rw [remoteCell_reqWmask, applyMask_applyMask]
  | reqRead | rspRead | rspWrite | rspWmask => cases h

/-- Settles O59. -/
theorem maskedWriteBitByBit : Obligations.MaskedWriteBitByBit :=
  getLsbD_applyMask

/-- Settles O60: the masked write is idempotent, and a WRITE does not look at the cell. -/
theorem repeatedCommandLeavesTheSameCell : Obligations.RepeatedCommandLeavesTheSameCell :=
  ⟨applyMask_applyMask, remoteCell_reqWrite, remoteCell_reqWmask, fun _ _ _ => remoteCell_again⟩

end Sys2Proof.Machine
end

section
/-! The decoder and the encoder are inverse to each other (R90 to R99): each reader of a request's bytes
succeeds exactly on the bytes the encoder lays out there, and a response is cut where its byte count says. -/

namespace Sys2Proof.Machine

/-! ### Function codes -/

/-- The function codes of a legal configuration are pairwise distinct (R8, R43). -/
theorem cfgLegal_functions {c : Cfg} (h : cfgLegal c = true) :
    c.fcRead ≠ c.fcWrite ∧ c.fcRead ≠ c.fcWmask ∧ c.fcWrite ≠ c.fcWmask := by
  simp only [cfgLegal, Bool.and_eq_true, bne_iff_ne] at h
  tauto

/-- Under a legal configuration the function code of a kind stands for that kind (R99). -/
theorem kindOfFunction_fc {c : Cfg} (h : cfgLegal c = true) (k : CmdKind) :
    kindOfFunction c (fc c k) = some k := by
  obtain ⟨readWrite, readWmask, writeWmask⟩ := cfgLegal_functions h
  cases k with
  | read => simp [kindOfFunction, fc]
  | write => simp [kindOfFunction, fc, readWrite.symm]
  | wmask => simp [kindOfFunction, fc, readWmask.symm, writeWmask.symm]

/-! ### Requests -/

section
variable {c : Cfg} {category index page : Byte} {k : CmdKind} {body rest bytes : List Byte}
  {i : Instr}

theorem stripCountByte_ok_iff : stripCountByte c body = .ok rest ↔ body = countByte c ++ rest := by
  unfold stripCountByte countByte
  cases c.writeCountByte with
  | false => simp
  | true =>
    cases body with
    | nil => simp
    | cons b body => by_cases hb : b = 1#8 <;> simp [hb]

theorem decodeReadBody_ok_iff : decodeReadBody category index page body = .ok i ↔
    ∃ count crc, i = .reqRead category index page count crc
      ∧ body = readBody count ++ crcBytes crc := by
  constructor
  · intro h
    unfold decodeReadBody at h
    split at h <;> cases h
    exact ⟨_, _, rfl, by simp [readBody, crcBytes]⟩
  · rintro ⟨count, crc, rfl, rfl⟩
    simp [decodeReadBody, readBody, crcBytes]

theorem decodeWriteBody_ok_iff : decodeWriteBody category index page body = .ok i ↔
    ∃ value crc, i = .reqWrite category index page value crc
      ∧ body = wordBytes value ++ crcBytes crc := by
  constructor
  · intro h
    unfold decodeWriteBody at h
    split at h <;> cases h
    exact ⟨_, _, rfl, by simp [wordBytes, crcBytes]⟩
  · rintro ⟨value, crc, rfl, rfl⟩
    simp [decodeWriteBody, wordBytes, crcBytes]

theorem decodeWmaskBody_ok_iff : decodeWmaskBody category index page body = .ok i ↔
    ∃ andMask orMask crc, i = .reqWmask category index page andMask orMask crc
      ∧ body = wordBytes andMask ++ wordBytes orMask ++ crcBytes crc := by
  constructor
  · intro h
    unfold decodeWmaskBody at h
    split at h <;> cases h
    exact ⟨_, _, _, rfl, by simp [wordBytes, crcBytes]⟩
  · rintro ⟨andMask, orMask, crc, rfl, rfl⟩
    simp [decodeWmaskBody, wordBytes, crcBytes]

/-- How the bytes behind a request's header are read, by the kind its function code stands for. -/
def decodeOperands (c : Cfg) (category index page : Byte) (k : CmdKind) (body : List Byte) :
    Except DecodeError Instr :=
  match k with
  | .read => decodeReadBody category index page body
  | .write => (stripCountByte c body).bind (decodeWriteBody category index page)
  | .wmask => (stripCountByte c body).bind (decodeWmaskBody category index page)

/-- What follows the count byte, if there is one, is what the next reader sees. -/
theorem stripCountByte_bind_ok_iff {f : List Byte → Except DecodeError Instr} :
    (stripCountByte c body).bind f = .ok i ↔ ∃ rest, body = countByte c ++ rest ∧ f rest = .ok i := by
  simp only [← stripCountByte_ok_iff]
  cases stripCountByte c body <;> simp [Except.bind]

theorem requestHeader_append : requestHeader c k category index page ++ body
    = c.devAddr :: fc c k :: category :: index :: page :: body := rfl

/-- A request whose function code stands for its kind is read by its operands. -/
theorem decodeRequest_header (category index page : Byte) (body : List Byte)
    (hk : kindOfFunction c (fc c k) = some k) :
    decodeRequest c (requestHeader c k category index page ++ body)
      = decodeOperands c category index page k body := by
  simp only [requestHeader_append, decodeRequest, hk, ne_eq, not_true_eq_false, if_false]
  cases k with
  | read => rfl
  | write =>
    simp only [decodeOperands]
    cases stripCountByte c body <;> rfl
  | wmask =>
    simp only [decodeOperands]
    cases stripCountByte c body <;> rfl

/-- What decodes as a request is a header, with a function code of its kind, and operands. -/
theorem decodeRequest_ok (h : decodeRequest c bytes = .ok i) :
    ∃ category index page k body, bytes = requestHeader c k category index page ++ body
      ∧ decodeOperands c category index page k body = .ok i := by
  have operands := h
  unfold decodeRequest at h
  split at h
  case h_2 => cases h
  rename_i addr func category index page body
  split at h
  · cases h
  rename_i haddr
  obtain rfl : addr = c.devAddr := not_not.mp haddr
  cases hk : kindOfFunction c func with
  | none => simp [hk] at h
  | some k =>
    obtain rfl := fc_of_kindOfFunction hk
    rw [← requestHeader_append, decodeRequest_header _ _ _ _ hk] at operands
    exact ⟨category, index, page, k, body, rfl, operands⟩

/-- The header and the operands of a request are what the decoded request encodes. -/
theorem encode_of_decodeOperands (h : decodeOperands c category index page k body = .ok i) :
    encode c i = requestHeader c k category index page ++ body := by
  cases k with
  | read =>
    obtain ⟨count, crc, rfl, rfl⟩ := decodeReadBody_ok_iff.mp h
    rfl
  | write =>
    obtain ⟨rest, rfl, operands⟩ := stripCountByte_bind_ok_iff.mp h
    obtain ⟨value, crc, rfl, rfl⟩ := decodeWriteBody_ok_iff.mp operands
    simp [encode, bytesBeforeCrc, writeBody, crcField]
  | wmask =>
    obtain ⟨rest, rfl, operands⟩ := stripCountByte_bind_ok_iff.mp h
    obtain ⟨andMask, orMask, crc, rfl, rfl⟩ := decodeWmaskBody_ok_iff.mp operands
    simp [encode, bytesBeforeCrc, wmaskBody, crcField]

/-- A sent frame is the encoding of what it decodes to. -/
theorem encode_of_decodeRequest (h : decodeRequest c bytes = .ok i) : encode c i = bytes := by
  obtain ⟨category, index, page, k, body, rfl, operands⟩ := decodeRequest_ok h
  exact encode_of_decodeOperands operands

/-- A request decodes from its encoding when its function code stands for its kind. -/
theorem decodeRequest_encode (hd : i.direction = .sent)
    (hk : kindOfFunction c (fc c i.kind) = some i.kind) : decodeRequest c (encode c i) = .ok i := by
  cases i with
  | reqRead category index page count crc =>
    rw [encode, bytesBeforeCrc, List.append_assoc, decodeRequest_header (k := .read) _ _ _ _ hk]
    exact decodeReadBody_ok_iff.mpr ⟨count, crc, rfl, rfl⟩
  | reqWrite category index page value crc =>
    rw [encode, bytesBeforeCrc, List.append_assoc, decodeRequest_header (k := .write) _ _ _ _ hk]
    exact stripCountByte_bind_ok_iff.mpr ⟨wordBytes value ++ crcBytes crc, List.append_assoc ..,
      decodeWriteBody_ok_iff.mpr ⟨value, crc, rfl, rfl⟩⟩
  | reqWmask category index page andMask orMask crc =>
    rw [encode, bytesBeforeCrc, List.append_assoc, decodeRequest_header (k := .wmask) _ _ _ _ hk]
    exact stripCountByte_bind_ok_iff.mpr
      ⟨wordBytes andMask ++ wordBytes orMask ++ crcBytes crc, by simp [wmaskBody, crcField],
        decodeWmaskBody_ok_iff.mpr ⟨andMask, orMask, crc, rfl, rfl⟩⟩
  | rspRead | rspWrite | rspWmask => cases hd

/-! ### Responses -/

/-- A received frame is the response of its kind, payload and CRC field. -/
theorem eq_responseOf (hd : i.direction = .received) :
    i = responseOf i.kind (payloadOf i) (crcField i) := by
  cases i with
  | reqRead | reqWrite | reqWmask => cases hd
  | rspRead | rspWrite | rspWmask => rfl

/-- The byte count of a payload that fits it is the payload's length (R90, R96). -/
theorem toNat_byteCount {payload : List Byte} (h : payload.length ≤ 255) :
    (BitVec.ofNat 8 payload.length).toNat = payload.length := by
  rw [BitVec.toNat_ofNat, Nat.mod_eq_of_lt (by omega)]

@[simp] theorem crcOfBytes_crcBytes (crc : Word) : crcOfBytes (crcBytes crc) = crc :=
  mkWord_hi8_lo8 crc

/-- A response decodes from its encoding when its payload fits and its function code stands for its
kind. -/
theorem decodeResponse_encode (hd : i.direction = .received) (hfit : i.payloadFits = true)
    (hk : kindOfFunction c (fc c i.kind) = some i.kind) : decodeResponse c (encode c i) = .ok i := by
  have count := toNat_byteCount (of_decide_eq_true hfit)
  rw [eq_responseOf hd, encode_responseOf]
  have field : (crcBytes (crcField i)).length = 2 := rfl
  simp only [responseBytes, List.cons_append, List.nil_append, decodeResponse, List.length_append,
    count, field, lt_irrefl, if_false, hk, ne_eq, not_true_eq_false, List.take_left, List.drop_left,
    crcOfBytes_crcBytes]

/-- What decodes has a payload that fits its byte count: a request has none, and a response is cut by
its count (R90, R96). -/
theorem decode_payloadFits {d : Direction} (h : decode c d bytes = .ok i) : i.payloadFits = true := by
  cases d with
  | sent =>
    have hd := decode_direction h
    cases i with
    | reqRead | reqWrite | reqWmask => rfl
    | rspRead | rspWrite | rspWmask => cases hd
  | received =>
    obtain ⟨_, n, rest, k, -, -, -, rfl⟩ := decodeResponse_ok h
    refine decide_eq_true ?_
    rw [responseOf_payload, List.length_take]
    have := n.isLt
    omega

end

/-! ### The round trips -/

/-- Settles O9. -/
theorem decodeEncodeRoundTrip : Obligations.DecodeEncodeRoundTrip := by
  intro c i legal fits
  have hk := kindOfFunction_fc legal i.kind
  cases hd : i.direction with
  | sent => exact decodeRequest_encode hd hk
  | received => exact decodeResponse_encode hd fits hk

/-- Settles O10. -/
theorem encodeDecodeRoundTrip : Obligations.EncodeDecodeRoundTrip := by
  intro c d bytes i h
  refine ⟨?_, decode_direction h, decode_payloadFits h⟩
  cases d with
  | sent => exact encode_of_decodeRequest h
  | received => exact encode_of_decodeResponse h

end Sys2Proof.Machine
end

section
/-! The bytes of the three requests, the response that is not awaited, and the presented inputs that are
no command. -/

namespace Sys2Proof.Machine

/-- Settles O6: the builder's header and body, each written out. -/
theorem requestBytesByKind : Obligations.RequestBytesByKind := by
  intro c category page index count value andMask orMask
  refine ⟨rfl, ?_, ?_⟩
  · simp only [buildRequest, requestHeader, fc, requestBody, writeBody, countByte, wordBytes,
      List.append_assoc]
  · simp only [buildRequest, requestHeader, fc, requestBody, wmaskBody, countByte, wordBytes,
      List.append_assoc, List.cons_append, List.nil_append]

/-- A response that is not listened to, or of another kind than the command in flight, is passed over
(R152, log 6). -/
theorem receiveFrame_of_unexpected {s : State} {k : CmdKind} (frame : List Byte) (words : List Word)
    (h : s.fsm ≠ .listen ∨ s.cmd.kind ≠ k) : receiveFrame k frame words s = s :=
  if_neg (not_and_or.mpr h)

/-- Settles O23. -/
theorem unexpectedResponseChangesNothing : Obligations.UnexpectedResponseChangesNothing := by
  intro s k payload crc h
  rw [exec_response (responseOf_direction k payload crc), responseOf_kind,
    receiveFrame_of_unexpected _ _ h]

/-- Settles O27. -/
theorem noCommandNoStep : Obligations.NoCommandNoStep := by
  intro s p rest ha hk
  rw [step_agenda_cons ha]
  exact issuePort_none { s with agenda := rest } hk

end Sys2Proof.Machine
end

section
/-! The CRC unit (R120 to R126): the loop of R121 read as the bit-serial form of R122, a word that is
XORed into the register ahead of the loop, and the two bytes behind a sequence as one word. -/

namespace Sys2Proof.Machine

/-! ### The bit-serial step (R122) -/

/-- A byte as a word has the bits of the byte, and zeros above. -/
theorem getLsbD_byte_setWidth (b : Byte) (i : Nat) : (b.setWidth 16).getLsbD i = b.getLsbD i := by
  rw [BitVec.getLsbD_setWidth, Bool.and_eq_right_iff_imp]
  exact fun set => decide_eq_true ((BitVec.lt_of_getLsbD set).trans (by omega))

/-- The feedback constant has its ones at 15, 13 and 0 (R120). -/
theorem getLsbD_crcFeedback {i : Nat} (hi : i < 16) :
    crcFeedback.getLsbD i = decide (i = 15 ∨ i = 13 ∨ i = 0) := by
  revert i
  decide

/-- The bits of one serial step: every bit moves one place down, and the feedback bit is XORed in at
the taps. -/
theorem getLsbD_crcSerial (c : Word) (d : Bool) (i : Nat) :
    (crcSerial c d).getLsbD i
      = (c.getLsbD (i + 1) ^^ (crcFeedback.getLsbD i && (c.getLsbD 0 ^^ d))) := by
  unfold crcSerial
  cases c.getLsbD 0 ^^ d <;> simp [BitVec.getLsbD_ushiftRight, Nat.add_comm]

/-- A turn of the loop of R121 is a serial step with the data bit 0. -/
theorem crcSerial_false (c : Word) : crcSerial c false = crcShift c := by
  rw [crcSerial, crcShift, Bool.xor_false]

theorem getLsbD_crcShift (c : Word) (i : Nat) :
    (crcShift c).getLsbD i = (c.getLsbD (i + 1) ^^ (crcFeedback.getLsbD i && c.getLsbD 0)) := by
  rw [← crcSerial_false, getLsbD_crcSerial, Bool.xor_false]

/-- Of a word XORed into the register, one turn of the loop takes bit 0 as the serial data bit; the
other bits wait, one place further down. -/
theorem crcShift_xor (c w : Word) :
    crcShift (c ^^^ w) = crcSerial c (w.getLsbD 0) ^^^ (w >>> 1) := by
  simp only [crcShift, crcSerial, BitVec.getLsbD_xor, BitVec.ushiftRight_xor_distrib]
  split
  · ac_rfl
  · rfl

/-- `n` serial steps with the data bits `d 0`, `d 1` and so on. -/
def crcSerials (d : Nat → Bool) (n : Nat) (c : Word) : Word :=
  (List.range n).foldl (fun r i => crcSerial r (d i)) c

theorem crcSerials_succ (d : Nat → Bool) (n : Nat) (c : Word) :
    crcSerials d (n + 1) c = crcSerial (crcSerials d n c) (d n) := by
  rw [crcSerials, List.range_succ, List.foldl_append]
  rfl

/-! ### The loop of R121 -/

theorem crcShifts_add (m n : Nat) (c : Word) :
    crcShifts (m + n) c = crcShifts n (crcShifts m c) := by
  induction m generalizing c with
  | zero => rw [Nat.zero_add]; rfl
  | succ m ih => rw [Nat.succ_add]; exact ih (crcShift c)

theorem crcShifts_succ (n : Nat) (c : Word) : crcShifts (n + 1) c = crcShift (crcShifts n c) :=
  crcShifts_add n 1 c

/-- `n` turns take the low `n` bits of a word XORed into the register as serial data bits; the rest of
the word is still XORed in, `n` places further down. -/
theorem crcShifts_xor (n : Nat) (c w : Word) :
    crcShifts n (c ^^^ w) = crcSerials w.getLsbD n c ^^^ (w >>> n) := by
  induction n with
  | zero => rfl
  | succ n ih =>
    rw [crcShifts_succ, ih, crcShift_xor, crcSerials_succ, BitVec.getLsbD_ushiftRight,
      BitVec.shiftRight_add, Nat.add_zero]

/-- `n` turns are `n` serial steps with data bits 0. -/
theorem crcShifts_eq_crcSerials (n : Nat) (c : Word) :
    crcShifts n c = crcSerials (fun _ => false) n c := by
  induction n with
  | zero => rfl
  | succ n ih => rw [crcShifts_succ, crcSerials_succ, crcSerial_false, ih]

/-- A byte in the upper half of the register comes down unchanged in eight turns. -/
theorem crcShifts_xor_upper (c : Word) (h : Byte) :
    crcShifts 8 (c ^^^ (h.setWidth 16 <<< 8)) = crcShifts 8 c ^^^ h.setWidth 16 := by
  have low : ∀ i ∈ List.range 8, (h.setWidth 16 <<< 8).getLsbD i = false := fun i hi => by
    simp [BitVec.getLsbD_shiftLeft, List.mem_range.mp hi]
  have down : h.setWidth 16 <<< 8 >>> 8 = h.setWidth 16 := by
    refine BitVec.eq_of_getLsbD_eq fun i _ => ?_
    have short : h.getLsbD i = true → 8 + i < 16 := fun set => by
      have := BitVec.lt_of_getLsbD set
      omega
    simpa [getLsbD_byte_setWidth] using fun _ => short
  rw [crcShifts_xor, crcShifts_eq_crcSerials, down]
  congr 1
  exact List.foldl_ext _ _ _ fun r i hi => by rw [low i hi]

/-- The bit shifted out is bit 15 of the result, and it tells whether the feedback constant was XORed
into the others. -/
theorem crcShift_injective : Function.Injective crcShift := by
  intro c c' h
  have bits (i : Nat) : (c.getLsbD (i + 1) ^^ (crcFeedback.getLsbD i && c.getLsbD 0))
      = (c'.getLsbD (i + 1) ^^ (crcFeedback.getLsbD i && c'.getLsbD 0)) := by
    rw [← getLsbD_crcShift, ← getLsbD_crcShift, h]
  have out : c.getLsbD 0 = c'.getLsbD 0 := by
    have top := bits 15
    rwa [getLsbD_crcFeedback (by omega), BitVec.getLsbD_of_ge c 16 le_rfl,
      BitVec.getLsbD_of_ge c' 16 le_rfl, Bool.xor_right_inj] at top
  refine BitVec.eq_of_getLsbD_eq fun i _ => ?_
  cases i with
  | zero => exact out
  | succ i =>
    have bit := bits i
    rwa [out, Bool.xor_left_inj] at bit

theorem crcShifts_injective (n : Nat) : Function.Injective (crcShifts n) := by
  induction n with
  | zero => exact Function.injective_id
  | succ n ih => exact ih.comp crcShift_injective

theorem crcShifts_zero_word (n : Nat) : crcShifts n 0 = 0 := by
  induction n with
  | zero => rfl
  | succ n ih => exact ih

theorem crcShifts_eq_zero_iff {n : Nat} {c : Word} : crcShifts n c = 0 ↔ c = 0 := by
  rw [← crcShifts_zero_word n, (crcShifts_injective n).eq_iff, crcShifts_zero_word]

/-! ### The byte update -/

/-- An update is eight serial steps with the byte's bits: nothing of a byte is left after eight (R122). -/
theorem crcSerials_eq_crc16Update (c : Word) (b : Byte) :
    crcSerials b.getLsbD 8 c = crc16Update c b := by
  have used_up : b.setWidth 16 >>> 8 = 0#16 := BitVec.eq_of_getLsbD_eq fun i _ => by
    rw [BitVec.getLsbD_ushiftRight, getLsbD_byte_setWidth, BitVec.getLsbD_of_ge b _ (by omega),
      BitVec.getLsbD_zero]
  rw [crc16Update, crcShifts_xor, used_up, funext (getLsbD_byte_setWidth b)]
  exact BitVec.xor_zero.symm

theorem crc16Update_injective (b : Byte) : Function.Injective fun c => crc16Update c b :=
  (crcShifts_injective 8).comp fun _ _ => (BitVec.xor_left_inj _).mp

/-- The two bytes of a word share no bit. -/
theorem mkWord_eq_xor (h l : Byte) : mkWord h l = l.setWidth 16 ^^^ (h.setWidth 16 <<< 8) := by
  refine BitVec.eq_of_getLsbD_eq fun i hi => ?_
  rw [mkWord, BitVec.getLsbD_or, BitVec.getLsbD_xor, BitVec.getLsbD_shiftLeft, getLsbD_byte_setWidth]
  by_cases low : i < 8
  · simp [low]
  · simp [BitVec.getLsbD_of_ge l i (by omega)]

/-- Two bytes are one word, low byte first: the second waits in the upper half of the register while
the first is shifted through. -/
theorem crc16Update_crc16Update (c : Word) (l h : Byte) :
    crc16Update (crc16Update c l) h = crcShifts 16 (c ^^^ mkWord h l) := by
  rw [mkWord_eq_xor, ← BitVec.xor_assoc, crcShifts_add 8 8, crcShifts_xor_upper]
  rfl

theorem eq_mkWord_iff {c : Word} {l h : Byte} : c = mkWord h l ↔ l = lo8 c ∧ h = hi8 c := by
  constructor
  · rintro rfl
    simp
  · rintro ⟨rfl, rfl⟩
    simp

/-! ### The statements -/

/-- Settles O1. -/
theorem crcSerialFormAgrees : Obligations.CrcSerialFormAgrees := by
  refine ⟨crcSerials_eq_crc16Update, fun c d i hi => ?_⟩
  rw [getLsbD_crcSerial, getLsbD_crcFeedback hi]
  split
  case isTrue top => simp [top]
  case isFalse below =>
    split
    case isTrue tap => simp [below, tap]
    case isFalse untapped => simp [below, untapped]

/-- Settles O2: the update is injective, and there are finitely many words. -/
theorem crcUpdateIsBijective : Obligations.CrcUpdateIsBijective :=
  fun b => (crc16Update_injective b).bijective_of_finite

/-- Settles O4: the loop maps only 0 to 0, so the last two bytes, read as one word, have to be the
register they are XORed into. -/
theorem crcValidIffFieldIsRight : Obligations.CrcValidIffFieldIsRight := by
  intro s l h
  calc crcValid (s ++ [l, h]) = true
      ↔ crc16Update (crc16Update (crc16 s) l) h = 0 := by
        rw [crcValid, beq_iff_eq, crc16_append]; rfl
    _ ↔ crc16 s ^^^ mkWord h l = 0 := by rw [crc16Update_crc16Update, crcShifts_eq_zero_iff]
    _ ↔ crc16 s = mkWord h l := BitVec.xor_eq_zero_iff
    _ ↔ l = lo8 (crc16 s) ∧ h = hi8 (crc16 s) := eq_mkWord_iff

/-- Settles O3: the appended bytes are the CRC of the rest, so the frame is valid. -/
theorem crcResidueIsZero : Obligations.CrcResidueIsZero := by
  refine ⟨fun s => ?_, by decide +kernel⟩
  have valid : crcValid (appendCrc s) = true := (crcValidIffFieldIsRight s _ _).mpr ⟨rfl, rfl⟩
  exact beq_iff_eq.mp valid

end Sys2Proof.Machine
end

section
/-! The request builder and ISSUE (R140 to R145, R205), and the step that completes a response (R209). -/

namespace Sys2Proof.Machine

/-- Settles O5: the appended CRC makes the residue zero, and a built request is as long as the frame of
its kind. -/
theorem builtRequestShape : Obligations.BuiltRequestShape := by
  rintro c ⟨kind, category, page, index, count, value, andMask, orMask⟩
  refine ⟨crcResidueIsZero.1 _, rfl, rfl, ?_⟩
  cases kind with
  | read => rfl
  | write => exact Laws.EncodeLength.reqWrite category index page value _ c
  | wmask => exact Laws.EncodeLength.reqWmask category index page andMask orMask _ c

/-! ### ISSUE -/

/-- ISSUE over all fields: in IDLE the command and its frame are latched and the first attempt begins
(R203, R205); in any other state the host is held off (R36). -/
theorem next_issueCommand {s : State} {m : Cmd} {frame : List Byte}
    (built : buildRequest s.cfg m = frame) :
    (s.fsm = .idle →
      (.next (issueCommand m s) : Host.Outcome State Fault Refusal) = .next { s with
        cmd := m
        txframe := frame
        attempt := 1
        resValid := false
        issued := true
        rxfifo := if s.cfg.flushRxBeforeTx then [] else s.rxfifo
        txen := true
        flow := if s.cfg.hasFlow then true else s.flow
        timer := s.cfg.preTxSettleUs
        fsm := .preTx })
    ∧ (s.fsm ≠ .idle → (.next (issueCommand m s) : Host.Outcome State Fault Refusal) = .next s) := by
  refine ⟨fun idle => ?_, fun busy => ?_⟩
  · rw [issueCommand_idle m idle, ← built]
    rfl
  · rw [issueCommand_busy m busy]

/-- Settles O16. -/
theorem readIsIssued : Obligations.ReadIsIssued := by
  intro s category index page count crc
  obtain ⟨built, -, -⟩ := requestBytesByKind s.cfg category page index count s.port.value
    s.port.andMask s.port.orMask
  exact next_issueCommand built

/-- Settles O17. -/
theorem writeIsIssued : Obligations.WriteIsIssued := by
  intro s category index page value crc
  obtain ⟨-, built, -⟩ := requestBytesByKind s.cfg category page index s.port.count value
    s.port.andMask s.port.orMask
  exact next_issueCommand built

/-- Settles O18. -/
theorem wmaskIsIssued : Obligations.WmaskIsIssued := by
  intro s category index page andMask orMask crc
  obtain ⟨-, -, built⟩ := requestBytesByKind s.cfg category page index s.port.count s.port.value
    andMask orMask
  exact next_issueCommand built

/-! ### The byte that completes a response -/

/-- Settles O25. -/
theorem stepRunsTheReceivedResponse : Obligations.StepRunsTheReceivedResponse := by
  intro s i b waiting rest next listening queued decoded
  rw [step_agenda_cons next]
  exact rxConsume_completes (s := { s with agenda := rest }) listening queued decoded

end Sys2Proof.Machine
end

section
/-! The recognition rule (R150 to R157): the length is compared with the byte count first, and at the
expected length the header is looked at before the residue. -/

namespace Sys2Proof.Machine

section
variable {c : Cfg} {a : List Byte} {f : Byte}

/-! ### The five results (R150) -/

theorem frameStatus_of_short (short : a.length < (byteAt a 2).toNat + 5) :
    frameStatus c a f = .incomplete := by
  unfold frameStatus
  rw [if_pos short, ite_self]

theorem frameStatus_of_long (long : (byteAt a 2).toNat + 5 < a.length) :
    frameStatus c a f = .overrun := by
  unfold frameStatus
  rw [if_neg (by omega), if_neg (by omega), if_pos long]

/-- At the expected length the header decides between UNMATCHED and the rest, and then the residue. -/
theorem frameStatus_of_length_eq (len : a.length = (byteAt a 2).toNat + 5) :
    frameStatus c a f =
      if byteAt a 0 = c.devAddr ∧ byteAt a 1 = f then
        if crc16 a = 0 then .good (payloadWords a) else .crcBad
      else .unmatched := by
  unfold frameStatus
  rw [if_neg (by omega), if_neg (by omega), if_neg (by omega)]
  by_cases addr : byteAt a 0 = c.devAddr
  · by_cases func : byteAt a 1 = f <;> simp [addr, func]
  · simp [addr]

/-- A result that is neither INCOMPLETE nor OVERRUN is that of the expected length. -/
theorem length_of_frameStatus (incomplete : frameStatus c a f ≠ .incomplete)
    (overrun : frameStatus c a f ≠ .overrun) : a.length = (byteAt a 2).toNat + 5 := by
  by_contra other
  rcases lt_or_gt_of_ne other with short | long
  · exact incomplete (frameStatus_of_short short)
  · exact overrun (frameStatus_of_long long)

/-- GOOD: the expected length, the right header and residue zero (R157). -/
theorem frameStatus_eq_good_iff {w : List Word} : frameStatus c a f = .good w ↔
    a.length = (byteAt a 2).toNat + 5 ∧ byteAt a 0 = c.devAddr ∧ byteAt a 1 = f ∧ crc16 a = 0
      ∧ payloadWords a = w := by
  constructor
  · intro good
    have len : a.length = (byteAt a 2).toNat + 5 :=
      length_of_frameStatus (c := c) (f := f) (by simp [good]) (by simp [good])
    rw [frameStatus_of_length_eq len] at good
    split at good
    case isFalse => cases good
    case isTrue header =>
      obtain ⟨addr, func⟩ := header
      split at good
      case isFalse => cases good
      case isTrue residue => exact ⟨len, addr, func, residue, FrameStatus.good.inj good⟩
  · rintro ⟨len, addr, func, residue, rfl⟩
    rw [frameStatus_of_length_eq len, if_pos ⟨addr, func⟩, if_pos residue]

/-- CRC_BAD: the expected length, the right header and a non-zero residue (R153). -/
theorem frameStatus_eq_crcBad_iff : frameStatus c a f = .crcBad ↔
    a.length = (byteAt a 2).toNat + 5 ∧ byteAt a 0 = c.devAddr ∧ byteAt a 1 = f ∧ crc16 a ≠ 0 := by
  constructor
  · intro bad
    have len : a.length = (byteAt a 2).toNat + 5 :=
      length_of_frameStatus (c := c) (f := f) (by simp [bad]) (by simp [bad])
    rw [frameStatus_of_length_eq len] at bad
    split at bad
    case isFalse => cases bad
    case isTrue header =>
      obtain ⟨addr, func⟩ := header
      split at bad
      case isTrue => cases bad
      case isFalse residue => exact ⟨len, addr, func, residue⟩
  · rintro ⟨len, addr, func, residue⟩
    rw [frameStatus_of_length_eq len, if_pos ⟨addr, func⟩, if_neg residue]

/-- Where the result is UNMATCHED or OVERRUN, the length the byte count asks for has been reached. -/
theorem count_le_of_frameStatus (h : frameStatus c a f = .unmatched ∨ frameStatus c a f = .overrun) :
    (byteAt a 2).toNat + 5 ≤ a.length := by
  by_contra short
  have incomplete : frameStatus c a f = .incomplete := frameStatus_of_short (by omega)
  simp [incomplete] at h

/-- No byte count reaches beyond 260 bytes (R156). -/
theorem frameStatus_of_more_than_260 (long : 260 < a.length) : frameStatus c a f = .overrun := by
  have := (byteAt a 2).isLt
  exact frameStatus_of_long (by omega)

end

theorem length_payloadWords (a : List Byte) :
    (payloadWords a).length = (byteAt a 2).toNat / 2 := by
  rw [payloadWords, List.length_map, List.length_range]

theorem byteAt_append_of_lt {a : List Byte} {i : Nat} (h : i < a.length) (more : List Byte) :
    byteAt (a ++ more) i = byteAt a i :=
  List.getD_append a more 0 i h

/-- A response with any payload that fits its byte count, its CRC appended, is accepted, whatever the
function code listened for. -/
theorem exists_frameStatus_good (c : Cfg) (f : Byte) {n : Nat} {payload : List Byte}
    (size : payload.length = n) (fits : n ≤ 255) :
    ∃ a w, a.length = n + 5 ∧ frameStatus c a f = .good w := by
  subst size
  have len : (appendCrc (c.devAddr :: f :: BitVec.ofNat 8 payload.length :: payload)).length
      = payload.length + 5 := by
    simp [appendCrc, crcBytes]
  have count : payload.length = (BitVec.ofNat 8 payload.length).toNat := (toNat_byteCount fits).symm
  exact ⟨_, _, len, frameStatus_eq_good_iff.mpr
    ⟨len.trans (congrArg (· + 5) count), rfl, rfl, crcResidueIsZero.1 _, rfl⟩⟩

/-! ### The statements -/

/-- Settles O11. -/
theorem acceptedFrameShape : Obligations.AcceptedFrameShape := by
  refine ⟨fun c a f w good => ?_, fun c f => ?_⟩
  · obtain ⟨len, addr, func, residue, rfl⟩ := frameStatus_eq_good_iff.mp good
    have := (byteAt a 2).isLt
    exact ⟨len, addr, func, residue, length_payloadWords a, by omega, by omega⟩
  · exact ⟨exists_frameStatus_good c f (n := 0) List.length_nil (by omega),
      exists_frameStatus_good c f (n := 255) (List.length_replicate (a := 0)) (by omega)⟩

/-- Settles O12: buffers of up to 260 bytes are equal, longer ones are OVERRUN whatever they hold. -/
theorem onlyFirst260BytesMatter : Obligations.OnlyFirst260BytesMatter := by
  intro c a b f agree lengths
  by_cases short : a.length ≤ 260
  · have : b.length ≤ 260 := by omega
    rw [List.take_of_length_le short, List.take_of_length_le this] at agree
    rw [agree]
  · rw [frameStatus_of_more_than_260 (by omega), frameStatus_of_more_than_260 (by omega)]

/-- Settles O13: more bytes leave the byte count as it is, and it has already been reached. -/
theorem unmatchedThenAlwaysOverrun : Obligations.UnmatchedThenAlwaysOverrun := by
  intro c a more f h nonempty
  have reached := count_le_of_frameStatus h
  have added : 0 < more.length := List.length_pos_of_ne_nil nonempty
  refine frameStatus_of_long ?_
  rw [byteAt_append_of_lt (by omega), List.length_append]
  omega

/-- Settles O14. -/
theorem crcBadNeedsMatchingHeader : Obligations.CrcBadNeedsMatchingHeader := by
  intro c a f
  rw [frameStatus_eq_crcBad_iff]
  constructor
  · rintro ⟨len, header⟩
    exact ⟨by omega, len, header⟩
  · exact And.right

end Sys2Proof.Machine
end

section
/-! The response to the command in flight (R160 to R162, R153): its CRC field decides between the end of
the transaction and a failed attempt. -/

namespace Sys2Proof.Machine

/-! ### The words of a payload -/

/-- The words of a payload by index (R151). -/
theorem wordsOf_eq_map_range : (payload : List Byte) →
    wordsOf payload = (List.range (payload.length / 2)).map
      fun j => mkWord (payload.getD (2 * j) 0) (payload.getD (2 * j + 1) 0)
  | [] => rfl
  | [_] => by simp [wordsOf]
  | h :: l :: rest => by
    have half : (h :: l :: rest).length / 2 = rest.length / 2 + 1 := by
      simp only [List.length_cons]
      omega
    rw [wordsOf, wordsOf_eq_map_range rest, half, List.range_succ_eq_map, List.map_cons,
      List.map_map]
    rfl

/-! ### The response that is awaited -/

/-- A response's residue is zero exactly when its CRC field is the CRC of the bytes before it (R126). -/
theorem crcValid_encode_responseOf {c : Cfg} {k : CmdKind} {payload : List Byte} {crc : Word} :
    crcValid (encode c (responseOf k payload crc)) = true ↔ crc = crc16 (responseBytes c k payload) := by
  rw [encode_responseOf, crcBytes, crcValidIffFieldIsRight, ← eq_mkWord_iff, mkWord_hi8_lo8, eq_comm]

section
variable {s : State} {k : CmdKind} {payload : List Byte} {crc : Word}

theorem exec_responseOf_awaited (listening : s.fsm = .listen) (kind : s.cmd.kind = k) :
    exec (responseOf k payload crc) s = .next
      (if crcValid (encode s.cfg (responseOf k payload crc)) then completeOk (wordsOf payload) s
        else attemptFailed .crcMismatch s) := by
  rw [exec_response (responseOf_direction k payload crc), responseOf_kind, responseOf_payload,
    receiveFrame, if_pos ⟨listening, kind⟩]

/-- With the right CRC field the response ends the transaction (R218). -/
theorem exec_responseOf_of_crc_right (listening : s.fsm = .listen) (kind : s.cmd.kind = k)
    (right : crc = crc16 (responseBytes s.cfg k payload)) :
    exec (responseOf k payload crc) s = .next (completeOk (wordsOf payload) s) := by
  rw [exec_responseOf_awaited listening kind, if_pos (crcValid_encode_responseOf.mpr right)]

/-- With any other CRC field it fails the attempt (R153). -/
theorem exec_responseOf_of_crc_wrong (listening : s.fsm = .listen) (kind : s.cmd.kind = k)
    (wrong : crc ≠ crc16 (responseBytes s.cfg k payload)) :
    exec (responseOf k payload crc) s = .next (attemptFailed .crcMismatch s) := by
  rw [exec_responseOf_awaited listening kind, if_neg (mt crcValid_encode_responseOf.mp wrong)]

/-- Only a READ keeps the words it is answered with (R218). -/
theorem exec_responseOf_of_not_read (listening : s.fsm = .listen) (kind : s.cmd.kind = k)
    (notRead : k ≠ .read) (right : crc = crc16 (responseBytes s.cfg k payload)) :
    exec (responseOf k payload crc) s = .next { s with
      resStatus := .ok
      resWords := []
      resPreview := []
      resValid := true
      fsm := .idle } := by
  rw [exec_responseOf_of_crc_right listening kind right, completeOk, kind, if_neg notRead]

end

/-! ### The statements -/

/-- Settles O19. -/
theorem readResponseDeliversWords : Obligations.ReadResponseDeliversWords := by
  intro s payload crc listening kind _ right
  have delivered := exec_responseOf_of_crc_right (k := .read) listening kind right
  rwa [completeOk, if_pos kind, wordsOf_eq_map_range] at delivered

/-- Settles O20. -/
theorem writeResponseCompletes : Obligations.WriteResponseCompletes :=
  fun _ _ _ listening kind _ right =>
    exec_responseOf_of_not_read (k := .write) listening kind (by decide) right

/-- Settles O21. -/
theorem wmaskResponseCompletes : Obligations.WmaskResponseCompletes :=
  fun _ _ _ listening kind _ right =>
    exec_responseOf_of_not_read (k := .wmask) listening kind (by decide) right

/-- Settles O22. -/
theorem wrongCrcFailsTheAttempt : Obligations.WrongCrcFailsTheAttempt := by
  intro s k payload crc listening kind _ wrong
  rw [exec_responseOf_of_crc_wrong listening kind wrong]
  exact ⟨fun left => congrArg Host.Outcome.next (attemptFailed_retry .crcMismatch left),
    fun last => congrArg Host.Outcome.next (attemptFailed_final .crcMismatch last)⟩

end Sys2Proof.Machine
end

section
/-! The transceiver (42_transceiver.md): the derived times of R180 and R181, and the mode in which a
transaction leaves the line (R178). -/

namespace Sys2Proof.Machine

/-! ### Derived times -/

/-- The formula of R180 is Mathlib's ceiling division. -/
theorem frameTimeUs_eq_ceilDiv (c : Cfg) : frameTimeUs c = 11000000 ⌈/⌉ c.baud :=
  (Nat.ceilDiv_eq_add_pred_div 11000000 c.baud).symm

/-- The frame time is the least number of microseconds that holds 11 bits (R180). -/
theorem frameTimeUs_le_iff {c : Cfg} (hb : 1 ≤ c.baud) {q : Nat} :
    frameTimeUs c ≤ q ↔ 11000000 ≤ q * c.baud := by
  rw [frameTimeUs_eq_ceilDiv, ceilDiv_le_iff_le_mul hb, Nat.mul_comm c.baud q]

theorem frameTimeUs_pos {c : Cfg} (hb : 1 ≤ c.baud) : 1 ≤ frameTimeUs c := by
  by_contra zero
  have fits := (frameTimeUs_le_iff hb).mp (Nat.le_of_lt_succ (Nat.lt_of_not_le zero))
  omega

/-- From 11,000,000 bits per second upward one microsecond holds a byte. -/
theorem frameTimeUs_of_fast {c : Cfg} (fast : 11000000 ≤ c.baud) : frameTimeUs c = 1 := by
  have hb : 1 ≤ c.baud := by omega
  have fits : frameTimeUs c ≤ 1 := (frameTimeUs_le_iff hb).mpr (by omega)
  exact Nat.le_antisymm fits (frameTimeUs_pos hb)

/-- Settles O57: the bounds by the least-multiple property; the examples are evaluated. -/
theorem derivedTimes : Obligations.DerivedTimes := by
  refine ⟨fun c hb => ⟨rfl, (frameTimeUs_le_iff hb).mp le_rfl, fun q => (frameTimeUs_le_iff hb).mpr,
    frameTimeUs_pos hb, frameTimeUs_of_fast⟩, fun _ => rfl, ?examples⟩
  case examples => decide

/-! ### The end of a transaction -/

/-- Of the engine's moves only `complete_ok` and the final failure enter IDLE, both out of LISTEN and
with a result (R226, R227). -/
theorem EngineMove.enters_idle {e : Event} {s u : State} (h : EngineMove e s u)
    (busy : s.fsm ≠ .idle) (idle : u.fsm = .idle) : s.fsm = .listen ∧ u.resValid = true := by
  cases h with
  | complete _ listening _ => exact ⟨listening, rfl⟩
  | giveUp _ listening _ => exact ⟨listening, rfl⟩
  | stay => exact absurd idle busy
  | configure _ _ _ _ => exact absurd idle busy
  | issue _ _ _ | settle _ _ | release _ _ | listen _ _ | retry _ _ _ | restart _ _ => cases idle

/-- In IDLE the line is in receive mode and nothing is left to send: (I1), (I2) and (I5) of R48. -/
theorem Invariants.idle_line {s : State} (hi : Invariants s) (idle : s.fsm = .idle) :
    s.txen = false ∧ s.flow = false ∧ s.txq = [] :=
  have notPreTx : s.fsm ≠ .preTx := by simp [idle]
  have notSending : s.fsm ≠ .txSend := by simp [idle]
  ⟨hi.txen_off notPreTx notSending, hi.flow_off notPreTx notSending, hi.txqEmpty notSending⟩

/-- Settles O48: the engine's move ends the transaction, and the invariants of the next state (O44)
give the line. -/
theorem transactionEndsInReceiveMode : Obligations.TransactionEndsInReceiveMode := by
  intro s t e rest hi busy ha hr h idle
  have line := (everyStepKeepsTheInvariants s t hi h).idle_line idle
  obtain ⟨s₁, s₂, s₃, h₁, h₂, h₃, rfl⟩ := step_stages ha hr h
  have fsm : s₂.fsm = s.fsm := h₂.fsm_eq.trans h₁.fsm_eq
  obtain ⟨listening, result⟩ := h₃.enters_idle (fsm ▸ busy) idle
  exact ⟨fsm ▸ listening, result, line⟩

end Sys2Proof.Machine
end

section
/-! RX_CONSUME as the spec writes it (R209): the byte is taken, then the case over `frame_status` (R150).
The decoder reads exactly the frames whose length and header the recognition rule accepts, and a frame of
another kind than the command in flight is the rule's UNMATCHED. -/

namespace Sys2Proof.Machine

/-- What R209 does after the byte is taken, by the result of the recognition rule. -/
def afterStatus : FrameStatus → State → State
  | .good words, s => completeOk words s
  | .crcBad, s => attemptFailed .crcMismatch s
  | .incomplete, s => s
  | .unmatched, s => s
  | .overrun, s => s

section
variable {c : Cfg} {k k' : CmdKind} {a : List Byte} {i : Instr} {s : State}

/-- Under a legal configuration a function code stands for one kind only (R8, R99). -/
theorem fc_eq_fc_iff (legal : cfgLegal c = true) : fc c k = fc c k' ↔ k = k' := by
  refine ⟨fun same => ?_, congrArg (fc c)⟩
  have read := kindOfFunction_fc legal k
  rw [same, kindOfFunction_fc legal k'] at read
  exact (Option.some.inj read).symm

/-! ### The recognition rule on a response (R150, R151) -/

theorem encode_response (received : i.direction = .received) :
    encode c i = responseBytes c i.kind (payloadOf i) ++ crcBytes (crcField i) := by
  rw [← encode_responseOf, ← eq_responseOf received]

theorem length_encode_response (received : i.direction = .received) :
    (encode c i).length = (payloadOf i).length + 5 := by
  rw [encode_response received, Laws.encode_response_length]

/-- Byte 2 of a response is its payload's length (R96). -/
theorem byteAt_two_response (received : i.direction = .received) (fits : i.payloadFits = true) :
    (byteAt (encode c i) 2).toNat = (payloadOf i).length := by
  rw [encode_response received]
  exact toNat_byteCount (of_decide_eq_true fits)

/-- From byte 3 on a response carries its payload (R96). -/
theorem byteAt_response_payload (received : i.direction = .received) {j : Nat}
    (inside : j < (payloadOf i).length) : byteAt (encode c i) (j + 3) = (payloadOf i).getD j 0 := by
  rw [encode_response received]
  exact List.getD_append (payloadOf i) _ 0 j inside

/-- The words the rule reads out of a response are its payload's, an odd last byte in none. -/
theorem payloadWords_response (received : i.direction = .received) (fits : i.payloadFits = true) :
    payloadWords (encode c i) = wordsOf (payloadOf i) := by
  rw [payloadWords, byteAt_two_response received fits, wordsOf_eq_map_range]
  refine List.map_congr_left fun j hj => ?_
  have inside : j < (payloadOf i).length / 2 := List.mem_range.mp hj
  rw [show 3 + 2 * j = 2 * j + 3 by omega, byteAt_response_payload received (by omega),
    show 4 + 2 * j = 2 * j + 1 + 3 by omega, byteAt_response_payload received (by omega)]

/-- A whole response is recognised by its function code; then its residue decides. -/
theorem frameStatus_response (legal : cfgLegal c = true) (received : i.direction = .received)
    (fits : i.payloadFits = true) : frameStatus c (encode c i) (fc c k) =
      if i.kind = k then
        if crcValid (encode c i) then .good (wordsOf (payloadOf i)) else .crcBad
      else .unmatched := by
  have len : (encode c i).length = (byteAt (encode c i) 2).toNat + 5 := by
    rw [length_encode_response received, byteAt_two_response received fits]
  have addr : byteAt (encode c i) 0 = c.devAddr := by rw [encode_response received]; rfl
  have func : byteAt (encode c i) 1 = fc c i.kind := by rw [encode_response received]; rfl
  simp only [frameStatus_of_length_eq len, addr, func, fc_eq_fc_iff legal,
    payloadWords_response received fits, crcValid, beq_iff_eq, true_and]

/-- A response that lacks bytes at its end is INCOMPLETE: its byte count, once there, asks for more. -/
theorem frameStatus_of_missing {missing : List Byte} {f : Byte} (received : i.direction = .received)
    (fits : i.payloadFits = true) (whole : a ++ missing = encode c i) (nonempty : missing ≠ []) :
    frameStatus c a f = .incomplete := by
  have missed : 0 < missing.length := List.length_pos_of_ne_nil nonempty
  have len : a.length + missing.length = (payloadOf i).length + 5 := by
    rw [← List.length_append, whole, length_encode_response received]
  refine frameStatus_of_short ?_
  by_cases header : 2 < a.length
  · rw [← byteAt_append_of_lt header missing, whole, byteAt_two_response received fits]
    omega
  · omega

/-! ### The decoder and the recognition rule -/

/-- Bytes of the expected length with the header of a response decode. -/
theorem decodeResponse_of_header (legal : cfgLegal c = true) (len : a.length = (byteAt a 2).toNat + 5)
    (addr : byteAt a 0 = c.devAddr) (func : byteAt a 1 = fc c k) : ∃ i, decodeResponse c a = .ok i := by
  match a with
  | [] | [_] | [_, _] => cases len
  | a₀ :: a₁ :: n :: rest =>
    have len : rest.length = n.toNat + 2 := Nat.add_right_cancel (m := 3) len
    have addr : a₀ = c.devAddr := addr
    have func : a₁ = fc c k := func
    simp [decodeResponse, len, addr, func, kindOfFunction_fc legal]

/-- Where nothing decodes, the rule neither accepts nor reports a wrong CRC. -/
theorem afterStatus_of_decode_error {e : DecodeError} (legal : cfgLegal c = true)
    (h : decodeResponse c a = .error e) : afterStatus (frameStatus c a (fc c k)) s = s := by
  cases result : frameStatus c a (fc c k) with
  | incomplete | overrun | unmatched => rfl
  | good w =>
    obtain ⟨len, addr, func, -, -⟩ := frameStatus_eq_good_iff.mp result
    obtain ⟨i, hi⟩ := decodeResponse_of_header legal len addr func
    cases h.symm.trans hi
  | crcBad =>
    obtain ⟨len, addr, func, -⟩ := frameStatus_eq_crcBad_iff.mp result
    obtain ⟨i, hi⟩ := decodeResponse_of_header legal len addr func
    cases h.symm.trans hi

/-- A response that is awaited succeeds or fails by its residue (R150). -/
theorem receiveFrame_of_awaited (frame : List Byte) (words : List Word) (listening : s.fsm = .listen)
    (kind : s.cmd.kind = k) : receiveFrame k frame words s =
      if crcValid frame then completeOk words s else attemptFailed .crcMismatch s :=
  if_pos ⟨listening, kind⟩

/-- In LISTEN the delivery of a decoded frame is the rule's case on that frame. -/
theorem afterStatus_of_decode_ok (legal : cfgLegal c = true) (listening : s.fsm = .listen)
    (h : decodeResponse c a = .ok i) : afterStatus (frameStatus c a (fc c s.cmd.kind)) s
      = receiveFrame i.kind (encode c i) (wordsOf (payloadOf i)) s := by
  rw [← encode_of_decodeResponse h, frameStatus_response legal (decodeResponse_direction h)
    (decode_payloadFits (d := .received) h)]
  by_cases awaited : i.kind = s.cmd.kind
  · rw [receiveFrame_of_awaited _ _ listening awaited.symm, if_pos awaited]
    split <;> rfl
  · rw [receiveFrame_of_unexpected _ _ (.inr (Ne.symm awaited)), if_neg awaited]
    rfl

/-! ### RX_CONSUME -/

/-- RX_CONSUME with a byte waiting in LISTEN. -/
theorem rxConsume_eq_afterStatus {b : Byte} {waiting : List Byte} (legal : cfgLegal s.cfg = true)
    (listening : s.fsm = .listen) (queued : s.rxfifo = b :: waiting) :
    rxConsume s = .next (afterStatus (frameStatus s.cfg (s.acc ++ [b]) (fc s.cfg s.cmd.kind))
      (takeByte b waiting s)) := by
  cases hd : decodeResponse s.cfg (s.acc ++ [b]) with
  | ok i =>
    rw [rxConsume_completes listening queued hd, exec_response (decodeResponse_direction hd)]
    exact congrArg _ (afterStatus_of_decode_ok (s := takeByte b waiting s) legal listening hd).symm
  | error e =>
    rw [afterStatus_of_decode_error legal hd]
    simp [rxConsume, listening, queued, decode, hd]

theorem rxConsume_disabled (h : ¬ (s.fsm = .listen ∧ s.rxfifo ≠ [])) : rxConsume s = .next s := by
  rcases rxConsume_cases s with stays | ⟨b, rest, t, listening, queued, -⟩
  · exact stays
  · exact absurd ⟨listening, by simp [queued]⟩ h

/-- The step on RX_CONSUME with a byte waiting in LISTEN, by the rule's result on the extended `acc`. -/
theorem step_rxConsume {b : Byte} {waiting : List Byte} {rest : List Event} {result : FrameStatus}
    (legal : cfgLegal s.cfg = true) (next : s.agenda = .rxConsume :: rest) (listening : s.fsm = .listen)
    (queued : s.rxfifo = b :: waiting)
    (recognised : frameStatus s.cfg (s.acc ++ [b]) (fc s.cfg s.cmd.kind) = result) :
    step s = .next (afterStatus result (takeByte b waiting { s with agenda := rest })) := by
  rw [step_agenda_cons next, ← recognised]
  exact rxConsume_eq_afterStatus (s := { s with agenda := rest }) legal listening queued

end

/-- Settles O36: the statement's case over the recognition rule is `afterStatus`, result by result. -/
theorem consumeFollowsFrameStatus : Obligations.ConsumeFollowsFrameStatus := by
  intro s rest legal next
  refine ⟨fun b waiting listening queued => ?byte, fun disabled => ?disabled⟩
  case disabled =>
    rw [step_agenda_cons next]
    exact rxConsume_disabled (s := { s with agenda := rest }) disabled
  case byte =>
    have stepped (result) := step_rxConsume (result := result) legal next listening queued
    dsimp only
    cases recognised : frameStatus s.cfg (s.acc ++ [b]) (fc s.cfg s.cmd.kind) with
    | good | crcBad | incomplete | unmatched | overrun => exact stepped _ recognised

/-! ### A valid response, byte by byte -/

/-- In LISTEN for a command of its kind, a valid response `i` is on its way: `acc` holds the bytes taken so
far, `ahead` waits with `behind` after it, and the RX_CONSUME of each byte ahead is due. -/
structure Receiving (i : Instr) (ahead behind : List Byte) (rest : List Event) (s : State) : Prop where
  legal : cfgLegal s.cfg = true
  received : i.direction = .received
  fits : i.payloadFits = true
  right : crcField i = crc16 (bytesBeforeCrc s.cfg i)
  listening : s.fsm = .listen
  kind : s.cmd.kind = i.kind
  whole : s.acc ++ ahead = encode s.cfg i
  crc : s.crc = crc16 s.acc
  queued : s.rxfifo = ahead ++ behind
  next : s.agenda = List.replicate ahead.length .rxConsume ++ rest

section
variable {i : Instr} {b : Byte} {ahead behind : List Byte} {rest : List Event} {s : State}

/-- A frame with the right CRC field has residue zero (R125). -/
theorem crc16_encode_of_right {c : Cfg} (right : crcField i = crc16 (bytesBeforeCrc c i)) :
    crc16 (encode c i) = 0 := by
  rw [encode, right]
  exact crcResidueIsZero.1 _

/-- A byte that is not the last only joins `acc`. -/
theorem Receiving.step_byte (h : Receiving i (b :: ahead) behind rest s) (more : ahead ≠ []) :
    ∃ t, step s = .next t ∧ Receiving i ahead behind rest t
      ∧ t = takeByte b (ahead ++ behind) { s with agenda := t.agenda } := by
  have whole : s.acc ++ [b] ++ ahead = encode s.cfg i := by
    rw [List.append_assoc]
    exact h.whole
  have crc : crc16Update s.crc b = crc16 (s.acc ++ [b]) := by
    rw [crc16_append, h.crc]
    rfl
  exact ⟨_, step_rxConsume h.legal h.next h.listening h.queued
      (frameStatus_of_missing h.received h.fits whole more),
    ⟨h.legal, h.received, h.fits, h.right, h.listening, h.kind, whole, crc, rfl, rfl⟩, rfl⟩

/-- The last byte ends the transaction with OK (R218). -/
theorem Receiving.step_last (h : Receiving i [b] behind rest s) :
    step s = .next (completeOk (wordsOf (payloadOf i))
      { s with agenda := rest, rxfifo := behind, acc := encode s.cfg i, crc := 0 }) := by
  have residue : crc16 (encode s.cfg i) = 0 := crc16_encode_of_right h.right
  have valid : crcValid (encode s.cfg i) = true := beq_iff_eq.mpr residue
  have good : frameStatus s.cfg (s.acc ++ [b]) (fc s.cfg s.cmd.kind)
      = .good (wordsOf (payloadOf i)) := by
    rw [h.whole, frameStatus_response h.legal h.received h.fits, if_pos h.kind.symm, if_pos valid]
  have crc : crc16Update s.crc b = 0 := by
    rw [← residue, ← h.whole, crc16_append, h.crc]
    rfl
  rw [step_rxConsume h.legal h.next h.listening h.queued good, ← h.whole, ← crc]
  rfl

end

/-- The bytes ahead are taken one after the other, by induction on them. -/
theorem Receiving.run {i : Instr} {behind : List Byte} {rest : List Event} :
    ∀ (ahead : List Byte) (s : State), ahead ≠ [] → Receiving i ahead behind rest s →
      runSteps ahead.length s = .next (completeOk (wordsOf (payloadOf i))
        { s with agenda := rest, rxfifo := behind, acc := encode s.cfg i, crc := 0 })
  | [], _, nonempty, _ => absurd rfl nonempty
  | [_], _, _, h => runSteps_of_next h.step_last
  | _ :: b :: more, s, _, h => by
    obtain ⟨t, hstep, ht, taken⟩ := h.step_byte (List.cons_ne_nil b more)
    rw [List.length_cons, runSteps_of_next hstep, Receiving.run _ t (List.cons_ne_nil b more) ht, taken]
    rfl

/-- Settles O37: the run above from an empty `acc`. -/
theorem validResponseIsTakenByteByByte : Obligations.ValidResponseIsTakenByteByByte := by
  intro s i behind rest legal received fits right listening kind acc crc queued next
  have nonempty : encode s.cfg i ≠ [] :=
    List.ne_nil_of_length_pos (by rw [length_encode_response received]; omega)
  have start : Receiving i (encode s.cfg i) behind rest s :=
    { legal, received, fits, right, listening, kind, queued, next
      whole := by rw [acc, List.nil_append]
      crc := by rw [acc, crc]; rfl }
  rw [start.run _ _ nonempty, completeOk, kind]

end Sys2Proof.Machine
end

section
/-! The transaction engine's own steps (R206 to R208, R221 to R223) and its transition table (R227). -/

namespace Sys2Proof.Machine

/-! ### Single steps -/

/-- Settles O31: the step's own condition and update, after the event has left the agenda. -/
theorem settleDoneStartsSending : Obligations.SettleDoneStartsSending := by
  intro s rest next
  rw [step_agenda_cons next]
  rfl

/-- Settles O32, with the guard time of R181 written out. -/
theorem txDoneReleasesTheLine : Obligations.TxDoneReleasesTheLine := by
  intro s rest next
  rw [step_agenda_cons next]
  rfl

/-- Settles O33. -/
theorem guardDoneStartsListening : Obligations.GuardDoneStartsListening := by
  intro s rest next
  rw [step_agenda_cons next]
  rfl

/-- Settles O34, with the two branches of `attempt_failed` (R222) written out. -/
theorem timeoutFailsTheAttempt : Obligations.TimeoutFailsTheAttempt := by
  intro s rest next
  rw [step_agenda_cons next]
  rfl

/-- Settles O35, with `start_attempt` (R203) written out. -/
theorem backoffDoneStartsTheNextAttempt : Obligations.BackoffDoneStartsTheNextAttempt := by
  intro s rest next
  rw [step_agenda_cons next]
  rfl

/-! ### The transition table -/

/-- The rows of the transition table by their event, and the event that does not move `fsm`. -/
inductive FsmRow (s t : State) : Event → Prop
  | stay (e : Event) (unmoved : t.fsm = s.fsm) : FsmRow s t e
  | issue (p : CmdPort) (idle : s.fsm = .idle) (offered : p.kind ≠ 0) (enters : t.fsm = .preTx) :
    FsmRow s t (.issue p)
  | settle (settling : s.fsm = .preTx) (due : s.timer = 0) (enters : t.fsm = .txSend) :
    FsmRow s t .settleDone
  | release (sending : s.fsm = .txSend) (empty : s.txq = []) (enters : t.fsm = .postTx) :
    FsmRow s t .txDone
  | listen (guarding : s.fsm = .postTx) (due : s.timer = 0) (enters : t.fsm = .listen) :
    FsmRow s t .guardDone
  | complete (listening : s.fsm = .listen) (waiting : s.rxfifo ≠ []) (enters : t.fsm = .idle)
      (status : t.resStatus = .ok) : FsmRow s t .rxConsume
  | badRetry (listening : s.fsm = .listen) (waiting : s.rxfifo ≠ [])
      (left : s.attempt < s.cfg.attempts) (enters : t.fsm = .backoff) : FsmRow s t .rxConsume
  | badFinal (listening : s.fsm = .listen) (waiting : s.rxfifo ≠ [])
      (final : s.cfg.attempts ≤ s.attempt) (enters : t.fsm = .idle)
      (status : t.resStatus = .crcMismatch) : FsmRow s t .rxConsume
  | lateRetry (listening : s.fsm = .listen) (due : s.timer = 0)
      (left : s.attempt < s.cfg.attempts) (enters : t.fsm = .backoff) : FsmRow s t .rxTimeout
  | lateFinal (listening : s.fsm = .listen) (due : s.timer = 0)
      (final : s.cfg.attempts ≤ s.attempt) (enters : t.fsm = .idle)
      (status : t.resStatus = .timeout) : FsmRow s t .rxTimeout
  | restart (waiting : s.fsm = .backoff) (due : s.timer = 0) (enters : t.fsm = .preTx) :
    FsmRow s t .backoffDone

/-- ISSUE leaves IDLE where a command is offered (R104, R205). -/
theorem issuePort_row {p : CmdPort} {s t : State} (h : issuePort p s = .next t) :
    FsmRow s t (.issue p) := by
  by_cases none : p.kind = 0
  · cases (issuePort_none s none).symm.trans h
    exact .stay _ rfl
  · obtain ⟨_, h', rfl | ⟨idle, m, rfl⟩⟩ := issuePort_cases p s <;> cases h.symm.trans h'
    · exact .stay _ rfl
    · exact .issue p idle none rfl

/-- RX_CONSUME leaves LISTEN with the frame its byte completes (R209). -/
theorem rxConsume_row {s t : State} (h : rxConsume s = .next t) : FsmRow s t .rxConsume := by
  rcases rxConsume_cases s with h' | ⟨b, rest, t', listening, queued, h', ht⟩ <;>
    cases h.symm.trans h'
  · exact .stay _ rfl
  have waiting : s.rxfifo ≠ [] := by simp [queued]
  rcases ht with rfl | ⟨i, -, -, -, rfl⟩ | ⟨i, -, -, -, rfl⟩
  · exact .stay _ rfl
  · exact .complete listening waiting rfl rfl
  · rcases attemptFailed_cases .crcMismatch (takeByte b rest s) with ⟨left, h⟩ | ⟨final, h⟩ <;> rw [h]
    · exact .badRetry listening waiting left rfl
    · exact .badFinal listening waiting final rfl rfl

/-- RX_TIMEOUT leaves LISTEN by the attempts left (R221, R222). -/
theorem rxTimeout_row (s : State) : FsmRow s (rxTimeout s) .rxTimeout := by
  rcases rxTimeout_cases s with h | ⟨listening, due, h⟩ <;> rw [h]
  · exact .stay _ rfl
  · rcases attemptFailed_cases .timeout s with ⟨left, h⟩ | ⟨final, h⟩ <;> rw [h]
    · exact .lateRetry listening due left rfl
    · exact .lateFinal listening due final rfl rfl

/-- Every atomic event moves `fsm` along a row of its own or not at all. -/
theorem perform_row {e : Event} {s t : State} (atomic : e.atomic = true) (h : perform e s = .next t) :
    FsmRow s t e := by
  cases e with
  | issue p => exact issuePort_row h
  | wireTx =>
    cases h
    rcases wireTx_cases s with h | ⟨b, rest, -, -, h⟩ <;> exact .stay _ (by rw [h])
  | rxByte b => cases h; exact .stay _ rfl
  | tick => cases h; exact .stay _ rfl
  | settleDone =>
    cases h
    rcases settleDone_cases s with h | ⟨settling, due, h⟩ <;> rw [h]
    · exact .stay _ rfl
    · exact .settle settling due rfl
  | txDone =>
    cases h
    rcases txDone_cases s with h | ⟨sending, empty, h⟩ <;> rw [h]
    · exact .stay _ rfl
    · exact .release sending empty rfl
  | guardDone =>
    cases h
    rcases guardDone_cases s with h | ⟨guarding, due, h⟩ <;> rw [h]
    · exact .stay _ rfl
    · exact .listen guarding due rfl
  | rxConsume => exact rxConsume_row h
  | rxTimeout => cases h; exact rxTimeout_row s
  | backoffDone =>
    cases h
    rcases backoffDone_cases s with h | ⟨waiting, due, h⟩ <;> rw [h]
    · exact .stay _ rfl
    · exact .restart waiting due rfl
  | reset | config c | cycle p => cases atomic

/-- Settles O47: the rows, one by one, are the statement's alternatives. -/
theorem fsmFollowsTheTransitionTable : Obligations.FsmFollowsTheTransitionTable := by
  intro s t e rest next atomic h
  rw [step_agenda_cons next] at h
  cases perform_row atomic h with
  | stay _ unmoved => exact .inl unmoved
  | _ => simp_all

end Sys2Proof.Machine
end

section
/-! What can stop the machine, and what the deadline lets it take (R250, R262, R264). -/

namespace Sys2Proof.Machine

/-! ### Every event but a configuration is answered -/

/-- Request or response, an instruction's meaning is one state operation (R205, R218, R222). -/
theorem exec_answers (i : Instr) (s : State) : ∃ t, exec i s = .next t := by
  cases direction : i.direction with
  | sent =>
    obtain ⟨m, -, issues⟩ := exec_request direction s
    exact ⟨_, issues⟩
  | received => exact ⟨_, exec_response direction s⟩

theorem perform_atomic_answers {e : Event} (atomic : e.atomic = true) (s : State) :
    ∃ t, perform e s = .next t := by
  obtain ⟨u, performs⟩ := perform_withAgenda atomic s
  exact ⟨_, performs s.agenda⟩

/-- Only LISTEN runs an instruction, by RX_CONSUME; the other internal steps are plain state updates. -/
theorem internalStep_answers (s : State) : ∃ t, internalStep s = .next t := by
  cases fsm : s.fsm with
  | listen =>
    rw [internalStep_listen fsm]
    split
    · exact perform_atomic_answers (e := .rxConsume) rfl _
    · exact ⟨_, rfl⟩
  | idle | preTx | txSend | postTx | backoff => simp [internalStep, fsm]

/-- A clock cycle with reset, with what IDLE does, or with an internal step (R44, R291). -/
theorem clockCycle_answers (p : PortIn) (s : State) : ∃ t, clockCycle p s = .next t := by
  cases reset : p.rst with
  | true => exact ⟨applyReset s, if_pos reset⟩
  | false =>
    by_cases idle : s.fsm = .idle
    · obtain ⟨t, issues, -⟩ := issuePort_cases p.cmd (wireInputs p s)
      rw [clockCycle_idle reset idle]
      cases p.cmdValid with
      | true => exact ⟨_, congrArg (andThen · _) issues⟩
      | false => exact ⟨_, rfl⟩
    · obtain ⟨t, moves⟩ := internalStep_answers (wireInputs p s)
      rw [clockCycle_busy reset idle, moves]
      exact ⟨_, rfl⟩

/-- The presentation of a configuration is the only event that may be refused (R40, R43). -/
theorem perform_answers {e : Event} (other : ∀ c, e ≠ .config c) (s : State) :
    ∃ t, perform e s = .next t := by
  cases atomic : e.atomic with
  | true => exact perform_atomic_answers atomic s
  | false =>
    cases e with
    | reset => exact ⟨_, rfl⟩
    | cycle p => exact clockCycle_answers p s
    | config c => exact absurd rfl (other c)
    | _ => cases atomic

/-- Settles O41, by whether an event is due. -/
theorem nothingButConfigurationStops : Obligations.NothingButConfigurationStops := by
  refine ⟨exec_answers, fun s other => ?_⟩
  cases due : s.agenda with
  | nil => exact ⟨s, step_agenda_nil due⟩
  | cons e rest =>
    rw [step_agenda_cons due]
    exact perform_answers (fun c config => other c rest (config ▸ due)) _

/-! ### A byte waiting at the deadline -/

section
variable {p : PortIn} {s : State}

@[simp] theorem andThen_next_right (o : Host.Outcome State Fault Refusal) :
    andThen o .next = o := by cases o <;> rfl

theorem wireInputs_quiet (noByte : p.rxValid = false) (notTaken : p.txDone = false) :
    wireInputs p s = s := by simp [wireInputs, noByte, notTaken]

/-- A cycle in which nothing comes in is the internal step alone (R44). -/
theorem clockCycle_quiet (noReset : p.rst = false) (noByte : p.rxValid = false)
    (notTaken : p.txDone = false) (noTick : p.tickUs = false) (busy : s.fsm ≠ .idle) :
    clockCycle p s = internalStep s := by
  rw [clockCycle_busy noReset busy, wireInputs_quiet noByte notTaken]
  simp [noTick]

/-- With the deadline passed, a waiting byte goes first until one was consumed late (R262 (a)). -/
theorem consumesFirst_late (due : s.timer = 0) (waiting : s.rxfifo ≠ []) :
    consumesFirst s = !s.lateConsume := by simp [consumesFirst, due, waiting]

theorem rxTimeout_due (listening : s.fsm = .listen) (due : s.timer = 0) :
    rxTimeout s = attemptFailed .timeout s := if_pos ⟨listening, due⟩

/-- The internal step at the deadline with a byte waiting, by whether one was consumed late. -/
theorem internalStep_late (listening : s.fsm = .listen) (due : s.timer = 0)
    (waiting : s.rxfifo ≠ []) : internalStep s =
      if s.lateConsume then .next (attemptFailed .timeout s)
      else rxConsume { s with lateConsume := true } := by
  rw [internalStep_listen listening, consumesFirst_late due waiting, rxTimeout_due listening due, due]
  cases s.lateConsume <;> rfl

end

/-- Settles O56: the cycle is the internal step at the deadline, by the arbitration bit (log 13). -/
theorem hardwareConsumesOneByteBeforeTheTimeout :
    Obligations.HardwareConsumesOneByteBeforeTheTimeout := by
  intro s p rest next noReset noByte notTaken noTick listening due waiting
  have busy : s.fsm ≠ .idle := by simp [listening]
  have cycle : step s = internalStep { s with agenda := rest } := by
    rw [step_agenda_cons next]
    exact clockCycle_quiet noReset noByte notTaken noTick busy
  rw [cycle, internalStep_late (s := { s with agenda := rest }) listening due waiting]
  exact ⟨fun first => by simp [first], fun late => by simp [late]⟩

end Sys2Proof.Machine
end

section
/-! The echo hazard (R304) and the reset input (R291). -/

namespace Sys2Proof.Machine

/-! ### A request heard as its own response -/

/-- A byte count with one whole word in it delivers bytes 3 and 4 (R151). -/
theorem payloadWords_of_one_word {a : List Byte} (one : (byteAt a 2).toNat / 2 = 1) :
    payloadWords a = [mkWord (byteAt a 3) (byteAt a 4)] := by
  rw [payloadWords, one]
  rfl

/-- A request whose category plus 5 is its own length is accepted: the category stands where a response
has its byte count, and address, function code and residue are right in every request (R304). -/
theorem frameStatus_buildRequest {c : Cfg} {m : Cmd}
    (len : m.category.toNat + 5 = (buildRequest c m).length) :
    frameStatus c (buildRequest c m) (fc c m.kind) = .good (payloadWords (buildRequest c m)) := by
  obtain ⟨residue, -⟩ := builtRequestShape c m
  have count : byteAt (buildRequest c m) 2 = m.category := rfl
  exact frameStatus_eq_good_iff.mpr ⟨by rw [count, len], rfl, rfl, residue, rfl⟩

theorem length_buildRequest_read {c : Cfg} {m : Cmd} (read : m.kind = .read) :
    (buildRequest c m).length = 8 := by
  obtain ⟨-, -, -, length⟩ := builtRequestShape c m
  simpa [read] using length

/-- Settles O15: the category of such a READ is 3, so its one whole word is bytes 3 and 4, index and
page. -/
theorem echoedRequestIsAccepted : Obligations.EchoedRequestIsAccepted := by
  intro c m len
  refine ⟨_, frameStatus_buildRequest len, fun read => ?_⟩
  have three : m.category.toNat = 3 := by
    rw [length_buildRequest_read read] at len
    omega
  have one : (byteAt (buildRequest c m) 2).toNat / 2 = 1 := congrArg (· / 2) three
  rw [payloadWords_of_one_word one]
  rfl

/-! ### The reset input -/

theorem ne_config_of_resets {e : Event} (resets : e.resets = true) (c : Cfg) : e ≠ .config c := by
  rintro rfl
  cases resets

/-- Settles O39: an event that resets is no configuration, so the step is answered, and its answer is
the reset input's. -/
theorem resetInputAbandonsTheTransaction : Obligations.ResetInputAbandonsTheTransaction := by
  intro s e rest next resets
  obtain ⟨t, answered⟩ := perform_answers (ne_config_of_resets resets) { s with agenda := rest }
  rw [← step_agenda_cons next] at answered
  have reset : t = applyReset { s with agenda := rest } := step_resets next resets answered
  exact ⟨initialCmd, answered.trans (congrArg Host.Outcome.next reset)⟩

end Sys2Proof.Machine
end

section
/-! The words of the opcode table (R91 to R98). -/

namespace Sys2Proof.Machine

/-- Under a legal configuration a table word stands for the one frame whose encoding it spells out, by
the two round trips: a payload that fits its byte count (R96), read in the word's direction (R99). -/
theorem decodeTable_eq_some_iff {c : Cfg} {nbits w : Nat} {i : Instr} (legal : cfgLegal c = true) :
    decodeTable c nbits w = some i ↔
      encode c i = tableFrame nbits w ∧ i.direction = tableDirection nbits ∧ i.payloadFits = true := by
  constructor
  · intro h
    exact encodeDecodeRoundTrip c _ _ i (decodeTable_some h)
  · rintro ⟨frame, direction, fits⟩
    have decoded := decodeEncodeRoundTrip c i legal fits
    rw [frame, direction] at decoded
    rw [decodeTable, decoded]

theorem cfgLegal_defaultCfg : cfgLegal defaultCfg = true := by decide

/-- The example configuration is legal, so its decoding of a table word is a matter of encoding. -/
theorem decodeTableWord_eq_some_iff {nbits w : Nat} {i : Instr} : decodeTableWord nbits w = some i ↔
    encode defaultCfg i = tableFrame nbits w ∧ i.direction = tableDirection nbits
      ∧ i.payloadFits = true :=
  decodeTable_eq_some_iff cfgLegal_defaultCfg

/-- Settles O8: each word spells out the encoding of the row's frame, byte by byte. -/
theorem tableWordsDecode : Obligations.TableWordsDecode := by
  simp only [Obligations.TableWordsDecode, decodeTableWord_eq_some_iff]
  decide

end Sys2Proof.Machine
end
